-- ==== Sys2Proof/Word.lean ====
section
/-! DEFINITION. The word types of the Veslar 7460: frame bytes, serial memory words, station numbers, and readout text. -/

namespace Sys2Proof

/-- A byte of a body line frame (R145). -/
abbrev Byte := BitVec 8

/-- A word of the companion serial memory (R177), and a free-running count of a signal frame (R5). -/
abbrev Word := BitVec 16

/-- A station number on the body line, 0 to 15 (R171). -/
abbrev StationNo := BitVec 4

/-- Characters of a readout, first character first (R134). -/
abbrev Text := List Char

end Sys2Proof
end

