-- ==== Sys2Proof/Config.lean ====
section
/-! DEFINITION. What the model leaves free or names once: the free values, and the reading of an unlisted serial
memory word. -/

namespace Sys2Proof.Config

/-- FREE VALUE (log 12, DESIGN CHOICE), one for each idle step. How many words beyond the least number have been read, as far
as their times allow, when the timebase itself ends LOAD 250 ms after its start (R171). Nothing constrains it. -/
opaque wordsBeyondLeast : Nat → Nat

/-- FREE VALUE (log 12, DESIGN CHOICE), one for each idle step. Whether reading ends at that step, where the times of R171
allow it. Nothing constrains it. -/
opaque readingEnds : Nat → Bool

/-- FREE VALUE (log 12, DESIGN CHOICE), one for each idle step. The addresses of the words that were not answered in a LOAD that
the timebase itself ends at that step (R171). Nothing constrains it. -/
opaque wordsUnanswered : Nat → List Nat

/-- DESIGN CHOICE (log 9). What a word of the serial memory that nothing has written reads as. R26 and R171 treat a new
memory as failing every check, whether its words are all 0 or all FFFFH. -/
def blankWord : Word := 0xFFFF#16

/-- What a word that the memory does not answer reads as (R171). -/
def unansweredWord : Word := 0xFFFF#16

end Sys2Proof.Config
end

