-- ==== Sys2Proof/Syntax.lean ====
section
/-! DEFINITION. The commands of the Veslar 7460: one constructor for each row of spec/opcode_table.json, in its order. -/

namespace Sys2Proof

/-- The four signal kinds, one for each entry of the Signal Table (R4). -/
inductive SignalKind where
  | engine
  | chassis
  | body
  | fuelLevel
deriving DecidableEq, Repr

/-- The commands. The table gives no row any operand bits; the operands are what the spec's text says the part meets at
the step. A line level is `true` for recessive and `false` for dominant (R145). A slot operand is `true` for dominant. -/
inductive Instr where
  /-- Power is applied (R175). `straps` are the levels of SA3–SA0 and `rear` that of ROLE when they are read (R171);
  `cut` is how many words of a write in progress had been written (R28, R175). -/
  | powerOnReset (straps : StationNo) (rear : Bool) (cut : Nat)
  /-- The reset pin is held low and released (R175); operands as for `powerOnReset`. -/
  | resetPin (straps : StationNo) (rear : Bool) (cut : Nat)
  /-- Reading of the serial memory ends after all 446 words, or 250 ms pass with `wordsRead` words read; the words at the
  addresses `silent` were not answered (R171). -/
  | loadEnd (wordsRead : Nat) (silent : List Nat)
  | stabiliseEnd
  | runOn
  | runOff
  | startOn
  | startOff
  | lineWakeEdge
  | keepAliveExpiry
  | entryToSleep
  | gaugeTick
  /-- The update of gauge channel `channel` (R64). -/
  | channelUpdate (channel : Fin 6)
  /-- The 100 ms tick; `sense` holds the levels of SI15–SI0 at the sample (R79). -/
  | tripTick (sense : BitVec 16)
  | signalStale (kind : SignalKind)
  | signalLost (kind : SignalKind)
  | stationAbsent (station : StationNo)
  | fastFillEnd
  | debounceExpiry (warning : Fin 32)
  | edgeTimerExpiry (warning : Fin 32)
  | rotationAdvance
  | heartbeatTick
  | oneSecondTick
  | dayStep
  | engineHoursStep
  | unknownTimeout
  | markExpiry (warning : Fin 32)
  | lampTestEnd
  /-- Another station's frame as the part reads it, bit by bit from the start bit of its first header byte (R145, R146);
  `hold` tells whether another station drives the HOLD slot (R152). -/
  | frameReceive (bits : List Bool) (hold : Bool)
  | holdPauseEnd
  /-- The head entry is begun; `others` are the levels the other stations put on the line during the frame, recessive
  where the list ends (R150). -/
  | frameBegin (others : List Bool)
  /-- The attempt in progress reaches its response slots: `ack` tells whether the ACK slot is dominant, `hold` whether
  another station drives the HOLD slot (R151, R152). -/
  | attemptEnd (ack : Bool) (hold : Bool)
  | lineFaultDetect
  | lineFaultClear
  | engine
  | chassis
  | body
  | fuelLevel
  | warnAck
  | serviceReset
  | odoAnnounce
  | clock
  | options
  | status
  | tallyRequest
  | calWrite
  | tallyReport
  | calReply
  | unknownKind
  | lamp
  | insertRate
  | insertOnce
  | restart
  | restartReset
  | pageNext
  | pageBack
  | tripSelect
  | tripReset
  | odoSelect
  | acknowledge
  | hour
  | minute
  | serviceResetKey
  | call
  | secondClick
  | clickEnd
  | patternStepEnd
  | patternEnd
  | writeBegin
  | writeComplete
  | lineIdle
deriving DecidableEq, Repr

end Sys2Proof
end

