-- ==== Sys2Proof/WellFormed.lean ====
section
/-! DEFINITION. Which command terms are well formed: the operand ranges the spec gives. The machine gives every term a
meaning, well formed or not. -/

namespace Sys2Proof

/-- The words of the serial memory that LOAD reads, 0 to 445 (R171). -/
def loadWords : Nat := 446

/-- The longest frame in bits up to its check byte: two header bytes, six data bytes, check byte (R145). -/
def longestFrameBits : Nat := 90

/-- The longest write in words: the SERVICE area with its check word (R177). -/
def longestWrite : Nat := 25

/-- Whether a command's operands lie in the ranges the spec gives them: at most 446 words are read at LOAD and only those
can go unanswered (R171), no write is longer than 25 words (R177), no frame longer than 90 bits before its slots (R145). -/
def Instr.wellFormed : Instr → Bool
  | .powerOnReset _ _ cut => decide (cut ≤ longestWrite)
  | .resetPin _ _ cut => decide (cut ≤ longestWrite)
  | .loadEnd wordsRead silent => decide (wordsRead ≤ loadWords) && silent.all (fun a => decide (a < loadWords))
  | .frameReceive bits _ => decide (bits.length ≤ longestFrameBits)
  | .frameBegin others => decide (others.length ≤ longestFrameBits)
  | _ => true

end Sys2Proof
end

