-- ==== Sys2Proof/Decode.lean ====
section
/-! DEFINITION. The command a word spells. spec/opcode_table.json gives no row any bits (each row's `fields` is empty and
none has `fixed`), so no word spells a command. -/

namespace Sys2Proof

/-- The command spelled by an `nbits`-bit word: none, for every word, because no row of the table gives bits (log 29). -/
def decodeTableWord (_nbits _w : Nat) : Option Instr := none

end Sys2Proof
end

