-- ==== Sys2Proof/Machine/State.lean ====
section
/-! DEFINITION. The state of the Veslar 7460 as plain data, one structure for each block of the part (00_scope.md 2.1),
the reasons a step can stop, and the state after reset. -/

namespace Sys2Proof.Machine

/-! ## Names the chapters use -/

/-- The power states (R170). -/
inductive Power where
  | load | stabilise | standby | active | crank | sleep
deriving DecidableEq, Repr

/-- The role of a cluster (R171). -/
inductive Role where
  | front | rear
deriving DecidableEq, Repr

/-- The age state of a signal entry (R4). -/
inductive Freshness where
  | none | fresh | stale | lost
deriving DecidableEq, Repr

/-- The unit system (R178, R180). -/
inductive Units where
  | metric | us | imperial
deriving DecidableEq, Repr

/-! ## Frames and the Line Port (09_the_body_line.md) -/

/-- A frame on the body line. The priority of a frame the part sends is that of its kind (R145). -/
structure Frame where
  kind   : BitVec 5
  source : StationNo
  data   : List Byte
deriving DecidableEq, Repr

/-- A frame of the inbound queue with its arrival time (R147). -/
structure Stored where
  frame   : Frame
  arrival : Nat
deriving DecidableEq, Repr

/-- An entry of the transmit queue (R153). `sending` marks the entry in transmission. Its age is its place. -/
structure TxEntry where
  kind        : BitVec 5
  subject     : Option Nat
  data        : List Byte
  attempts    : Nat
  sending     : Bool
  replacement : Option (List Byte)
deriving DecidableEq, Repr

/-- What the receiver is doing: ready for the next frame, waiting for the line to become idle (R146, R157), or in the
middle of a frame with the bits read so far. -/
inductive Receiver where
  | ready
  | waitIdle
  | midFrame (bits : List Bool)
deriving DecidableEq, Repr

/-- The Line Port (R144); `ackDriven` and `holdDriven` are what the part drove in the last frame's slots (R148). -/
structure Line where
  tx         : List TxEntry
  inbound    : List Stored
  holding    : Bool
  halt       : Nat
  resume     : Nat
  pause      : Option Nat
  fault      : Bool
  idle       : Bool
  rx         : Receiver
  ackDriven  : Bool
  holdDriven : Bool
deriving DecidableEq, Repr

/-! ## The Signal Table (01_signals_from_the_line.md) -/

/-- The fields every signal entry has (R4). -/
structure SigHeader where
  fresh   : Freshness
  bound   : Option StationNo
  arrival : Nat
  rebound : Bool
deriving DecidableEq, Repr

/-- The ENGINE entry's signal fields (R5, R6). -/
structure EngineFields where
  speed       : Nat
  coolant     : Int
  oil         : Nat
  fuelCount   : Word
  chargeFault : Bool
  checkEngine : Bool
  oilSwitch   : Bool
deriving DecidableEq, Repr

/-- The CHASSIS entry's signal fields (R5, R6). -/
structure ChassisFields where
  distCount    : Word
  fluidLow     : Bool
  parkingBrake : Bool
  padWear      : Bool
deriving DecidableEq, Repr

/-- The BODY entry's signal fields (R5, R6); battery in tenths of a volt. -/
structure BodyFields where
  door1     : Bool
  door2     : Bool
  door3     : Bool
  door4     : Bool
  partition : Bool
  headlamp  : Bool
  bulbOut   : Bool
  keyIn     : Bool
  beltOpen  : Bool
  battery   : Nat
  outside   : Int
deriving DecidableEq, Repr

/-- The FUEL LEVEL entry's signal fields (R5, R6, R12). -/
structure FuelFields where
  sender      : Nat
  senderFault : Bool
deriving DecidableEq, Repr

/-- The Signal Table (R4). -/
structure Signals where
  engineHdr  : SigHeader
  engine     : EngineFields
  chassisHdr : SigHeader
  chassis    : ChassisFields
  bodyHdr    : SigHeader
  body       : BodyFields
  fuelHdr    : SigHeader
  fuel       : FuelFields
deriving DecidableEq, Repr

/-! ## Tallies (R165) and the Peer Supervisor (10_peer_supervision.md) -/

/-- The own tallies of the part, each held and counted by the block R165 names. -/
structure OwnTallies where
  rxCheckErrors    : Nat
  rxOverflow       : Nat
  undelivered      : Nat
  txDropped        : Nat
  holdsSeen        : Nat
  lineFaults       : Nat
  foreignFrames    : Nat
  distanceGaps     : Nat
  fuelGaps         : Nat
  odometerDisagree : Nat
  chimesDisplaced  : Nat
deriving DecidableEq, Repr

/-- The five tallies of a station record (R158). -/
structure StationTallies where
  hits       : Nat
  misses     : Nat
  mismatches : Nat
  slips      : Nat
  absents    : Nat
deriving DecidableEq, Repr

/-- The states of a station record (R158). -/
inductive StationState where
  | absent | hunt | sync | slip
deriving DecidableEq, Repr

/-- The outcome of a STATUS (R161). -/
inductive Outcome3 where
  | hit | miss | mismatch
deriving DecidableEq, Repr

/-- A record of the station table (R158); `window` is oldest first. -/
structure Station where
  state    : StationState
  last     : Option (BitVec 7)
  hitRun   : Nat
  window   : List Outcome3
  lastTime : Nat
  seen     : Bool
  tallies  : StationTallies
deriving DecidableEq, Repr

/-- The copy of every tally taken at a TALLY REQUEST (R166). -/
structure Snapshot where
  stations : List StationTallies
  own      : OwnTallies
deriving DecidableEq, Repr

/-- The Peer Supervisor (R158). `report` lists the parts (index, part number) that have still to leave, the first of
them standing in the transmit queue: the spec's indices still to be sent and the part of the current index. -/
structure Peer where
  stations  : List Station
  generator : Option (BitVec 7)
  clash     : Bool
  snapshot  : Snapshot
  report    : List (Nat × Nat)
  rate      : Nat
  count     : Nat
  once      : Bool
deriving DecidableEq, Repr

/-! ## The Distance and Fuel Accumulator (02) and the Trip Computer (03) -/

/-- A closed slot of the sample ring (R23). -/
structure Slot where
  dist : Nat
  fuel : Nat
deriving DecidableEq, Repr

/-- The Distance and Fuel Accumulator (R18); `ring` is newest first; `unknownCond` is the unknown condition of the
ODOMETER FAULT term (R32); `slot` is the current slot index. -/
structure Accum where
  distBase     : Option Word
  fuelBase     : Option Word
  distRes      : Nat
  fuelRes      : Nat
  fillDist     : Nat
  fillFuel     : Nat
  ring         : List Slot
  speed        : Nat
  odo          : Nat
  metres       : Nat
  odoUnknown   : Bool
  unknownTimer : Option Nat
  disagree     : Bool
  unknownCond  : Bool
  slot         : Option Nat
deriving DecidableEq, Repr

/-- A trip record or a last-trip snapshot: metres, millilitres, seconds (R34). -/
structure TripRecord where
  dist    : Nat
  fuel    : Nat
  elapsed : Nat
deriving DecidableEq, Repr

/-- The Trip Computer (R34). -/
structure Trip where
  a        : TripRecord
  b        : TripRecord
  snapA    : TripRecord
  snapB    : TripRecord
  winDist  : Nat
  winFuel  : Nat
  f        : Nat
  received : Bool
  fastFill : Nat
deriving DecidableEq, Repr

/-! ## The Gauge Driver (04_gauges.md) -/

/-- The quantity a channel shows (R60). -/
inductive Source where
  | off | speed | engineSpeed | fuelLevel | coolant | oil | battery
deriving DecidableEq, Repr

/-- The states of a channel (R60). -/
inductive ChannelState where
  | off | tracking | holding | resting | returning | parked
deriving DecidableEq, Repr

/-- The drive of one coil: a duty out of 255 and its polarity (R76). -/
structure Coil where
  duty     : Nat
  positive : Bool
deriving DecidableEq, Repr

/-- A breakpoint of a gauge curve (R60). -/
structure CurvePoint where
  input : Int
  angle : Nat
deriving DecidableEq, Repr

/-- The calibration fields of a channel record (R60, R62). -/
structure ChannelCal where
  source    : Source
  curve     : List CurvePoint
  fullScale : Nat
  damping   : Nat
  slew      : Nat
  divider   : Nat
deriving DecidableEq, Repr

/-- A channel record (R60) with the drive of its two coils (R76, R77). -/
structure Channel where
  cal   : ChannelCal
  angle : Nat
  state : ChannelState
  tick  : Nat
  coilA : Coil
  coilB : Coil
deriving DecidableEq, Repr

/-! ## The Warning Unit (05_warnings_and_lamps.md) -/

/-- The pull of a sense input (R78). -/
inductive Pull where
  | none | up | down
deriving DecidableEq, Repr

/-- The calibrated settings of a sense input (R78). -/
structure SenseCfg where
  pull       : Pull
  activeHigh : Bool
deriving DecidableEq, Repr

/-- A term of a warning entry (R80); `never` names no term and reads false (R177). -/
inductive Term where
  | pin (n : Nat)
  | remote (kind : SignalKind) (bit : Nat)
  | computed (code : Nat)
  | never
deriving DecidableEq, Repr

inductive Operator where
  | none | and | or | andNot
deriving DecidableEq, Repr

inductive Gate where
  | any | run | off
deriving DecidableEq, Repr

inductive Trigger where
  | level | edgeRise | edgeFall | edgeAny
deriving DecidableEq, Repr

/-- The class of a warning, A the most urgent (R80). -/
inductive Class where
  | a | b | c
deriving DecidableEq, Repr

inductive Audience where
  | front | rear | both
deriving DecidableEq, Repr

/-- The calibrated fields of a warning entry (R80). -/
structure WarnCfg where
  term1    : Term
  op       : Operator
  term2    : Term
  gate     : Gate
  trigger  : Trigger
  debounce : Nat
  cls      : Class
  audience : Audience
  passAck  : Bool
  lamp     : Option Nat
  text     : Nat
deriving DecidableEq, Repr

inductive WarnState where
  | quiet | pending | active | acked
deriving DecidableEq, Repr

/-- A warning entry in use: its calibration and its runtime fields (R82). `last` is none while unknown; `mark` is the
expiry time of a live pre-acknowledge mark. -/
structure Warning where
  cfg       : WarnCfg
  state     : WarnState
  count     : Nat
  last      : Option Bool
  mark      : Option Nat
  raise     : Option Nat
  edgeTimer : Nat
deriving DecidableEq, Repr

inductive LampState where
  | off | steady | flash
deriving DecidableEq, Repr

/-- The Warning Unit (R78, R80, R82). `table` has 32 positions; `nextRaise` is the running count of raise orders. -/
structure WarnUnit where
  sense       : List SenseCfg
  pinTerms    : BitVec 16
  table       : List (Option Warning)
  fuelLow     : Bool
  coolantHot  : Bool
  overspeed   : Bool
  callPending : Bool
  lamps       : List LampState
  flash       : Nat
  lampTest    : Option Nat
  nextRaise   : Nat
deriving DecidableEq, Repr

/-! ## The Chime Sequencer (06_chimes.md) -/

/-- An entry of the chime queue (R102); the queue is in playing order. -/
structure ChimeEntry where
  warning : Nat
  cls     : Class
deriving DecidableEq, Repr

inductive ToneMode where
  | silent | idle | pattern | click
deriving DecidableEq, Repr

/-- The step of the pattern being played and the time at which it ends (R102). -/
structure PatternStep where
  index : Nat
  ends  : Nat
deriving DecidableEq, Repr

/-- A click sequence (R102, R112): a key click, or a refusal pair; `start` is the time the first click began and `second`
tells whether the second click of a pair has begun. -/
structure Click where
  refusal : Bool
  start   : Nat
  second  : Bool
deriving DecidableEq, Repr

/-- The Chime Sequencer (R102). -/
structure Chimes where
  queue   : List ChimeEntry
  mode    : ToneMode
  playing : Option Nat
  step    : Option PatternStep
  click   : Option Click
deriving DecidableEq, Repr

/-! ## The Service Unit (07_service_reminders.md) -/

inductive ServiceState where
  | ok | soon | due | overdue
deriving DecidableEq, Repr

/-- The calibrated fields of a service item (R115). -/
structure ServiceCfg where
  kmInterval    : Nat
  daysInterval  : Nat
  hoursInterval : Nat
  kmMargin      : Nat
  daysMargin    : Nat
  hoursMargin   : Nat
  text          : Nat
deriving DecidableEq, Repr

/-- A service item (R115). -/
structure ServiceItem where
  cfg       : ServiceCfg
  odoBase   : Nat
  dayBase   : Nat
  hoursBase : Nat
  state     : ServiceState
deriving DecidableEq, Repr

/-- The Service Unit (R115); `hours` in tenths of an hour. -/
structure Service where
  items   : List ServiceItem
  hours   : Nat
  seconds : Nat
deriving DecidableEq, Repr

/-! ## The Readout Driver (08_readouts_keys_and_the_clock.md) -/

/-- The pages of the message readout (R133). -/
inductive Page where
  | clock | range | avgEconomy | currentEconomy | avgSpeed | elapsed | fuelUsed | lastTrip | service | outsideTemp
deriving DecidableEq, Repr

inductive TripSel where
  | a | b
deriving DecidableEq, Repr

inductive OdoSel where
  | odometer | tripA | tripB
deriving DecidableEq, Repr

/-- The figure the LAST TRIP page shows (R135). -/
inductive Rotation where
  | distance | economy | speed | time
deriving DecidableEq, Repr

/-- The record of the last KEY frame taken (R138). -/
structure KeyRecord where
  source  : StationNo
  target  : Byte
  code    : Byte
  arg     : Byte
  arrival : Nat
deriving DecidableEq, Repr

inductive Annunciator where
  | none | a | b
deriving DecidableEq, Repr

/-- The odometer readout: seven digits, the decimal point before the last digit, an annunciator (R137). -/
structure OdoReadout where
  digits : Text
  point  : Bool
  sign   : Annunciator
deriving DecidableEq, Repr

inductive Brightness where
  | dark | dimmed | full
deriving DecidableEq, Repr

/-- The Readout Driver (R129) with what both readouts show (R130). -/
structure Readout where
  page       : Page
  tripSel    : TripSel
  odoSel     : OdoSel
  rotPos     : Rotation
  rotCount   : Nat
  lastKey    : Option KeyRecord
  hour       : Nat
  minute     : Nat
  second     : Nat
  day        : Nat
  unset      : Bool
  message    : Text
  odoShown   : OdoReadout
  brightness : Brightness
deriving DecidableEq, Repr

/-! ## Power and Timebase (11_power_timebase_and_start_up.md) -/

/-- The key of a pending write (R179). -/
inductive WriteKey where
  | odometer
  | service
  | trip
  | counters
  | calWord (address : Nat)
deriving DecidableEq, Repr

/-- A pending write: its key and the words it carries (R179). -/
structure WriteEntry where
  key  : WriteKey
  data : List Word
deriving DecidableEq, Repr

/-- The write in progress: its key, the address of its first word, its words, and the target slot of an ODOMETER write
(R28, R179). -/
structure WriteJob where
  key    : WriteKey
  base   : Nat
  data   : List Word
  target : Nat
deriving DecidableEq, Repr

/-- Power and Timebase (R174, R176). `nextGauge`, `nextTrip` and `nextHeart` are the times of the next 20, 100 and 200 ms
ticks, none while they are stopped; `nextSecond` that of the next 1 s tick; `stabiliseEnds` the end of STABILISE (R170);
`returning` is the return stage (R173); `clock12` is set for the 12-hour format. -/
structure PowerUnit where
  state          : Power
  station        : StationNo
  role           : Role
  time           : Nat
  nextGauge      : Option Nat
  nextTrip       : Option Nat
  nextHeart      : Option Nat
  nextSecond     : Nat
  stabiliseEnds  : Nat
  keepAlive      : Option Nat
  returning      : Bool
  queue          : List WriteEntry
  writing        : Option WriteJob
  restartPending : Bool
  optionsTaken   : Bool
  units          : Units
  overspeed      : Nat
  volume         : Nat
  clock12        : Bool
  calFault       : Bool
deriving DecidableEq, Repr

/-- A breakpoint of the tank curve: a sender value and tenths of a litre (R43). -/
structure TankPoint where
  sender : Nat
  volume : Nat
deriving DecidableEq, Repr

/-- The calibrated constants in force (R178) and the tank curve (R43). -/
structure Cal where
  kDist     : Nat
  kFuel     : Nat
  economy   : Nat
  keepAlive : Nat
  units     : Units
  overspeed : Nat
  volume    : Nat
  clock12   : Bool
  lowLevel  : Nat
  hot       : Nat
  oil       : Nat
  watched   : Option StationNo
  tank      : List TankPoint
deriving DecidableEq, Repr

/-! ## The pins, the serial memory, and the whole state -/

/-- The levels on the input pins as the part last saw them (R170, R171, R79). -/
structure Pins where
  run      : Bool
  start    : Bool
  sense    : BitVec 16
  straps   : StationNo
  roleHigh : Bool
deriving DecidableEq, Repr

/-- The companion serial memory: (word address, word), addresses strictly rising, no word equal to what an unlisted
address reads as (log 9). -/
abbrev Memory := List (Nat × Word)

/-- The state of the part, its pins, its companion memory, and the queue of waiting commands. `idled` is the model's own: the
idle steps of the part, never cleared, for which the free values are drawn (log 12). -/
structure State where
  pins    : Pins
  mem     : Memory
  cal     : Cal
  pw      : PowerUnit
  line    : Line
  sig     : Signals
  peer    : Peer
  acc     : Accum
  trip    : Trip
  gauges  : List Channel
  warn    : WarnUnit
  chime   : Chimes
  service : Service
  readout : Readout
  tally   : OwnTallies
  pending : List Instr
  idled   : Nat
deriving DecidableEq, Repr

/-- The reasons a command can stop with a fault. -/
inductive Fault where
  /-- Raised by WRITE_COMPLETE alone, when a word of the write lies outside the 512 words of the serial memory (R177).
  Safe: no run from reset reaches it, and the machine stops where the spec gives no effect (log 30). -/
  | noSuchWord (address : Nat)
deriving DecidableEq, Repr

/-- The reasons a command can be refused. -/
inductive Refusal where
  /-- Raised by exec alone, for a command that has no meaning in the model. No command of this model is refused. Safe. -/
  | notModelled (mnemonic : String)
deriving DecidableEq, Repr

/-! ## Reset -/

/-- The reset value of a signal entry's header (R4). -/
def SigHeader.reset : SigHeader := { fresh := .none, bound := none, arrival := 0, rebound := false }

/-- Every own tally at 0 (R165). -/
def OwnTallies.zero : OwnTallies :=
  { rxCheckErrors := 0, rxOverflow := 0, undelivered := 0, txDropped := 0, holdsSeen := 0, lineFaults := 0,
    foreignFrames := 0, distanceGaps := 0, fuelGaps := 0, odometerDisagree := 0, chimesDisplaced := 0 }

/-- Every tally of a station record at 0 (R158). -/
def StationTallies.zero : StationTallies := { hits := 0, misses := 0, mismatches := 0, slips := 0, absents := 0 }

/-- The reset value of a station record (R158). -/
def Station.reset : Station :=
  { state := .absent, last := none, hitRun := 0, window := [], lastTime := 0, seen := false,
    tallies := StationTallies.zero }

/-- The reset value of a channel record (R60). Its calibration fields are taken at LOAD; DESIGN CHOICE (log 10): before that the
source is OFF, the curve has no points, and the full scale, damping exponent, slew limit and divider are the smallest. -/
def Channel.reset : Channel :=
  { cal := { source := .off, curve := [], fullScale := 40, damping := 0, slew := 1, divider := 1 },
    angle := 0, state := .resting, tick := 0,
    coilA := { duty := 0, positive := true }, coilB := { duty := 0, positive := true } }

/-- The reset value of a service item (R115). -/
def ServiceItem.reset : ServiceItem :=
  { cfg := { kmInterval := 0, daysInterval := 0, hoursInterval := 0, kmMargin := 0, daysMargin := 0, hoursMargin := 0,
             text := 0 },
    odoBase := 0, dayBase := 0, hoursBase := 0, state := .ok }

/-- A cleared trip record (R34). -/
def TripRecord.zero : TripRecord := { dist := 0, fuel := 0, elapsed := 0 }

/-- The machine right after reset: LOAD has begun and the straps have not been read (R171, R176). The pins, the serial
memory and the items taken at LOAD have the values of log 9 and log 10. -/
def State.reset : State where
  pins := { run := false, start := false, sense := 0#16, straps := 0#4, roleHigh := false }
  mem := []
  cal := { kDist := 5000, kFuel := 12500, economy := 120, keepAlive := 60, units := .metric, overspeed := 130,
           volume := 3, clock12 := false, lowLevel := 80, hot := 118, oil := 40, watched := none,
           tank := [{ sender := 0, volume := 0 }, { sender := 255, volume := 800 }] }
  pw := { state := .load, station := 0#4, role := .front, time := 0, nextGauge := some 20, nextTrip := some 100,
          nextHeart := some 200, nextSecond := 1000, stabiliseEnds := 0, keepAlive := none, returning := false,
          queue := [], writing := none, restartPending := false, optionsTaken := false, units := .metric,
          overspeed := 130, volume := 3, clock12 := false, calFault := false }
  line := { tx := [], inbound := [], holding := false, halt := 12, resume := 4, pause := none, fault := false,
            idle := false, rx := .ready, ackDriven := false, holdDriven := false }
  sig := { engineHdr := SigHeader.reset,
           engine := { speed := 0, coolant := 0, oil := 0, fuelCount := 0#16, chargeFault := false,
                       checkEngine := false, oilSwitch := false },
           chassisHdr := SigHeader.reset,
           chassis := { distCount := 0#16, fluidLow := false, parkingBrake := false, padWear := false },
           bodyHdr := SigHeader.reset,
           body := { door1 := false, door2 := false, door3 := false, door4 := false, partition := false,
                     headlamp := false, bulbOut := false, keyIn := false, beltOpen := false, battery := 0,
                     outside := 0 },
           fuelHdr := SigHeader.reset,
           fuel := { sender := 0, senderFault := false } }
  peer := { stations := List.replicate 16 Station.reset, generator := none, clash := false,
            snapshot := { stations := List.replicate 16 StationTallies.zero, own := OwnTallies.zero },
            report := [], rate := 0, count := 0, once := false }
  acc := { distBase := none, fuelBase := none, distRes := 0, fuelRes := 0, fillDist := 0, fillFuel := 0, ring := [],
           speed := 0, odo := 0, metres := 0, odoUnknown := false, unknownTimer := none, disagree := false,
           unknownCond := false, slot := none }
  trip := { a := TripRecord.zero, b := TripRecord.zero, snapA := TripRecord.zero, snapB := TripRecord.zero,
            winDist := 0, winFuel := 0, f := 0, received := false, fastFill := 0 }
  gauges := List.replicate 6 Channel.reset
  warn := { sense := List.replicate 16 { pull := .none, activeHigh := false }, pinTerms := 0#16,
            table := List.replicate 32 none, fuelLow := false, coolantHot := false, overspeed := false,
            callPending := false, lamps := List.replicate 12 .off, flash := 0, lampTest := none, nextRaise := 0 }
  chime := { queue := [], mode := .silent, playing := none, step := none, click := none }
  service := { items := List.replicate 6 ServiceItem.reset, hours := 0, seconds := 0 }
  readout := { page := .clock, tripSel := .a, odoSel := .odometer, rotPos := .distance, rotCount := 0,
               lastKey := none, hour := 12, minute := 0, second := 0, day := 0, unset := true,
               message := List.replicate 10 ' ',
               odoShown := { digits := List.replicate 7 ' ', point := false, sign := .none },
               brightness := .dark }
  tally := OwnTallies.zero
  pending := []
  idled := 0

end Sys2Proof.Machine
end

