-- ==== Sys2Proof/Machine/Ops.lean ====
section
/-! DEFINITION. Shared operations over the state: updates of one block, saturating tallies, the timebase, the serial
memory, bytes and words, and decimal figures. -/

namespace Sys2Proof.Machine

/-! ## Updates of one block -/

def State.setPins (s : State) (x : Pins) : State := { s with pins := x }
def State.setMem (s : State) (x : Memory) : State := { s with mem := x }
def State.setCal (s : State) (x : Cal) : State := { s with cal := x }
def State.setPw (s : State) (x : PowerUnit) : State := { s with pw := x }
def State.setLine (s : State) (x : Line) : State := { s with line := x }
def State.setSig (s : State) (x : Signals) : State := { s with sig := x }
def State.setPeer (s : State) (x : Peer) : State := { s with peer := x }
def State.setAcc (s : State) (x : Accum) : State := { s with acc := x }
def State.setTrip (s : State) (x : Trip) : State := { s with trip := x }
def State.setGauges (s : State) (x : List Channel) : State := { s with gauges := x }
def State.setWarn (s : State) (x : WarnUnit) : State := { s with warn := x }
def State.setChime (s : State) (x : Chimes) : State := { s with chime := x }
def State.setService (s : State) (x : Service) : State := { s with service := x }
def State.setReadout (s : State) (x : Readout) : State := { s with readout := x }
def State.setTally (s : State) (x : OwnTallies) : State := { s with tally := x }
def State.setPending (s : State) (x : List Instr) : State := { s with pending := x }
def State.setIdled (s : State) (x : Nat) : State := { s with idled := x }

/-! ## Tallies and clamps -/

/-- A 16-bit tally increased by one; it stops at 65,535 (R144, R165). -/
def bump16 (n : Nat) : Nat := min (n + 1) 65535

/-- An 8-bit tally increased by one; it stops at 255 (R144, R165). -/
def bump8 (n : Nat) : Nat := min (n + 1) 255

/-- A value clamped to the nearer end of a range. -/
def clampNat (lo hi n : Nat) : Nat := max lo (min hi n)

/-- A signed value clamped to the nearer end of a range. -/
def clampInt (lo hi n : Int) : Int := max lo (min hi n)

/-- Half-up rounding of n / d for d above 0 (00_scope.md 5.3; R51 forms it so). -/
def roundHalfUp (n d : Nat) : Nat := (n * 2 + d) / (2 * d)

/-! ## The timebase (R174) -/

/-- The timebase brought to time `t`, if that is still ahead (log 2). -/
def State.advanceTo (s : State) (t : Nat) : State := s.setPw { s.pw with time := max s.pw.time t }

/-- The first tick at or after `bound`, for ticks at `next`, `next + period`, and so on (00_scope.md 5.7). -/
def tickAtOrAfter (next period bound : Nat) : Nat :=
  if bound ≤ next then next else next + ((bound - next + (period - 1)) / period) * period

/-- The timebase time as the part counts it at a moment: 32 bits, which wrap at 2^32 ms (R174). The model keeps the moments
themselves, as whole numbers of milliseconds since the reset, so that ages are their differences (log 3). -/
def timebaseCount (moment : Nat) : BitVec 32 := BitVec.ofNat 32 moment

/-- The timebase time (R174, R176). -/
def State.timebase (s : State) : BitVec 32 := timebaseCount s.pw.time

/-- The age at `now` of what came at `arrival`. -/
def ageOf (now arrival : Nat) : Nat := now - arrival

/-! ## The companion serial memory (R177) -/

/-- What the memory holds at a word address; a word that is not listed reads as `Config.blankWord`. -/
def memRead (m : Memory) (a : Nat) : Word :=
  match m with
  | [] => Config.blankWord
  | (b, v) :: rest => if a = b then v else memRead rest a

/-- Writes one word and keeps the canonical form: addresses strictly rising, no blank word listed. -/
def memWrite (m : Memory) (a : Nat) (w : Word) : Memory :=
  match m with
  | [] => if w = Config.blankWord then [] else [(a, w)]
  | (b, v) :: rest =>
    if a < b then
      if w = Config.blankWord then (b, v) :: rest else (a, w) :: (b, v) :: rest
    else if a = b then
      if w = Config.blankWord then rest else (a, w) :: rest
    else (b, v) :: memWrite rest a w

/-- Writes words at ascending addresses (R179). -/
def memWriteAll (m : Memory) (a : Nat) (ws : List Word) : Memory :=
  match ws with
  | [] => m
  | w :: rest => memWriteAll (memWrite m a w) (a + 1) rest

/-- Whether every listed address lies above `lo` and they rise strictly, with no blank word listed. -/
def memRising (lo : Option Nat) (m : Memory) : Bool :=
  match m with
  | [] => true
  | (a, w) :: rest =>
    (match lo with | none => true | some l => decide (l < a)) && decide (w ≠ Config.blankWord) && memRising (some a) rest

/-- The canonical form of the serial memory. -/
def memWf (m : Memory) : Bool := memRising none m

/-! ## Bytes and words -/

/-- The byte of weight 256^k of a number. -/
def byteOf (n k : Nat) : Byte := BitVec.ofNat 8 (n / 256 ^ k)

/-- The word of weight 65,536^k of a number. -/
def wordOf (n k : Nat) : Word := BitVec.ofNat 16 (n / 65536 ^ k)

/-- A number from bytes, most significant first (00_scope.md 5.6). -/
def fromBytes (bs : List Byte) : Nat := bs.foldl (fun n b => n * 256 + b.toNat) 0

/-- The bits `hi` down to `lo` of a number. -/
def bitField (n hi lo : Nat) : Nat := (n / 2 ^ lo) % 2 ^ (hi - lo + 1)

/-- One bit of a byte. -/
def bitAt (b : Byte) (k : Nat) : Bool := b.getLsbD k

/-- A list changed at one place. -/
def updateAt {α : Type} (l : List α) (n : Nat) (f : α → α) : List α :=
  match l, n with
  | [], _ => []
  | x :: rest, 0 => f x :: rest
  | x :: rest, k + 1 => x :: updateAt rest k f

/-! ## Decimal figures -/

/-- The decimal digit of a number below 10. -/
def digitChar (n : Nat) : Char := Char.ofNat (48 + n % 10)

/-- The decimal digits of a number, at most `fuel` of them, without leading zeros. -/
def decimalDigits (fuel n : Nat) : Text :=
  match fuel with
  | 0 => []
  | k + 1 => if n < 10 then [digitChar n] else decimalDigits k (n / 10) ++ [digitChar n]

/-- A whole number in decimal. -/
def showNat (n : Nat) : Text := decimalDigits 12 n

/-- A whole number in decimal, with a minus sign when it is below 0. -/
def showInt (n : Int) : Text := if n < 0 then '-' :: showNat n.natAbs else showNat n.natAbs

/-- A number of tenths with its decimal point. -/
def showTenths (n : Nat) : Text := showNat (n / 10) ++ ['.', digitChar n]

/-- Two digits. -/
def showTwo (n : Nat) : Text := [digitChar (n / 10), digitChar n]

/-- Text right-justified in a field. -/
def padLeft (width : Nat) (t : Text) : Text := List.replicate (width - t.length) ' ' ++ t

/-- Text from the first character of a field, with blanks after it. -/
def padRight (width : Nat) (t : Text) : Text := t ++ List.replicate (width - t.length) ' '

end Sys2Proof.Machine
end

