-- ==== Sys2Proof/Machine/Operands.lean ====
section
/-! DEFINITION. The operand forms: frames as line levels (R145), the reading of a frame from the line (R146), the frame
kinds and their priorities, and the data bytes of a frame. -/

namespace Sys2Proof.Machine

/-! ## Kinds (R145, kind catalogue) -/

def kindEngine : BitVec 5 := 1#5
def kindChassis : BitVec 5 := 2#5
def kindKey : BitVec 5 := 3#5
def kindWarnAck : BitVec 5 := 4#5
def kindBody : BitVec 5 := 5#5
def kindFuelLevel : BitVec 5 := 6#5
def kindServiceReset : BitVec 5 := 7#5
def kindOdoAnnounce : BitVec 5 := 8#5
def kindClock : BitVec 5 := 9#5
def kindOptions : BitVec 5 := 10#5
def kindStatus : BitVec 5 := 11#5
def kindTallyRequest : BitVec 5 := 12#5
def kindTallyReport : BitVec 5 := 13#5
def kindCalWrite : BitVec 5 := 14#5
def kindCalReply : BitVec 5 := 15#5
def kindTest : BitVec 5 := 16#5

/-- The fixed priority of a kind (R145). A kind outside the catalogue is never sent; it reads as the worst priority. -/
def priorityOf (kind : BitVec 5) : Nat :=
  match kind.toNat with
  | 1 => 2
  | 2 => 2
  | 3 => 3
  | 4 => 3
  | 5 => 4
  | 6 => 5
  | 7 => 5
  | 8 => 6
  | 9 => 6
  | 10 => 6
  | _ => 7

/-! ## Data bytes -/

/-- Data byte `n` of a frame, counted from 1; a byte the frame does not have reads 0 (every use tests the length first). -/
def Frame.byte (f : Frame) (n : Nat) : Byte := f.data.getD (n - 1) 0#8

/-- The length of a frame: its number of data bytes (R145). -/
def Frame.len (f : Frame) : Nat := f.data.length

/-- Bits 3–0 of data byte 1: the target station of TALLY REQUEST, CAL WRITE and TEST (R166, R175, R181). -/
def Frame.target (f : Frame) : StationNo := (f.byte 1).truncate 4

/-- A signal frame's count of two bytes, most significant first (R5). -/
def Frame.word (f : Frame) (n : Nat) : Word := f.byte n ++ f.byte (n + 1)

/-! ## A frame on the line (R145) -/

/-- The check byte: 255 less the sum of the other bytes, modulo 256. -/
def checkByte (bs : List Byte) : Byte := 255#8 - bs.foldl (· + ·) 0#8

/-- The two header bytes: priority and kind; source station and length. -/
def headerBytes (prio : Nat) (f : Frame) : List Byte :=
  [BitVec.ofNat 3 prio ++ f.kind, f.source ++ BitVec.ofNat 4 f.len]

/-- All the bytes of a frame in line order. -/
def frameBytes (prio : Nat) (f : Frame) : List Byte :=
  let bs := headerBytes prio f ++ f.data
  bs ++ [checkByte bs]

/-- A byte as ten line levels: dominant start bit, eight bits most significant first, recessive stop bit. -/
def byteLevels (b : Byte) : List Bool :=
  false :: ([7, 6, 5, 4, 3, 2, 1, 0].map (fun k => b.getLsbD k)) ++ [true]

/-- A frame as line levels, up to the stop bit of its check byte. -/
def frameLevels (prio : Nat) (f : Frame) : List Bool := (frameBytes prio f).flatMap byteLevels

/-- A byte from its eight levels, most significant first. -/
def byteOfLevels (ls : List Bool) : Byte := BitVec.ofNat 8 (ls.foldl (fun n l => n * 2 + l.toNat) 0)

/-- The byte that stands at place `k` of a run of levels, without its start and stop bits. -/
def byteAtPlace (bits : List Bool) (k : Nat) : Byte := byteOfLevels ((bits.drop (10 * k + 1)).take 8)

/-- Whether the start and stop bits of the first `n` bytes have the levels the frame requires (R146). -/
def framingGood (bits : List Bool) (n : Nat) : Bool :=
  (List.range n).all (fun k => bits.getD (10 * k) true == false && bits.getD (10 * k + 9) false == true)

/-- What the receiver makes of the bits read so far (R146). -/
inductive Reading where
  /-- The frame is not yet read up to its check byte. -/
  | incomplete
  /-- The length is 7 to 15: discarded from header byte 2 onward. -/
  | badLength
  /-- Read whole; the check byte, a start bit or a stop bit is wrong. -/
  | bad
  | good (f : Frame)
deriving DecidableEq, Repr

/-- Reads a frame from line levels (R145, R146). -/
def readFrame (bits : List Bool) : Reading :=
  if bits.length < 20 then .incomplete else
  let h1 := byteAtPlace bits 0
  let h2 := byteAtPlace bits 1
  let len := h2.toNat % 16
  if 6 < len then .badLength else
  if bits.length < 10 * (len + 3) then .incomplete else
  let bs := (List.range (len + 3)).map (byteAtPlace bits)
  if framingGood bits (len + 3) && bs.foldl (· + ·) 0#8 == 255#8 then
    .good { kind := h1.truncate 5, source := BitVec.ofNat 4 (h2.toNat / 16), data := (bs.drop 2).take len }
  else .bad

/-! ## Arbitration and bit errors (R150) -/

/-- What reading back shows the sender (R150). -/
inductive SendResult where
  | sent
  | arbitrationLost
  | bitError
deriving DecidableEq, Repr

/-- The place of the first recessive bit of the sender's that the others override with dominant. -/
def firstOverridden (own others : List Bool) (k : Nat) : Option Nat :=
  match own, others with
  | o :: own', t :: others' => if o && !t then some k else firstOverridden own' others' (k + 1)
  | _, _ => none

/-- The last place of the arbitration field: start bit, eight bits, stop bit, start bit, four source bits (R150). -/
def arbitrationEnd : Nat := 14

/-- The outcome of sending against the levels of the other stations: an override within the arbitration field is a lost
arbitration, one after it through the stop bit of the check byte is a bit error (R150). -/
def sendResult (own others : List Bool) : SendResult :=
  match firstOverridden own others 0 with
  | none => .sent
  | some k => if k ≤ arbitrationEnd then .arbitrationLost else .bitError

end Sys2Proof.Machine
end

