-- ==== Sys2Proof/Machine/Transmit.lean ====
section
/-! DEFINITION. The transmit queue (R153, R154), departures (R151), and the report sequence that follows them (R167). -/

namespace Sys2Proof.Machine

/-! ## The transmit queue by key -/

/-- The key of an entry is its kind and subject (R153). -/
def TxEntry.hasKey (e : TxEntry) (kind : BitVec 5) (subject : Option Nat) : Bool :=
  e.kind == kind && e.subject == subject

/-- Places an entry behind every entry of the same or better priority (R153). -/
def txPlace (e : TxEntry) (q : List TxEntry) : List TxEntry :=
  match q with
  | [] => [e]
  | x :: rest => if priorityOf e.kind < priorityOf x.kind then e :: x :: rest else x :: txPlace e rest

/-- New data for an entry: in place while it waits, held as its replacement while it is being sent (R153). -/
def TxEntry.take (e : TxEntry) (data : List Byte) : TxEntry :=
  if e.sending then { e with replacement := some data } else { e with data := data }

/-- Gives new data to the entry with the key. -/
def txReplace (q : List TxEntry) (kind : BitVec 5) (subject : Option Nat) (data : List Byte) : List TxEntry :=
  q.map (fun e => if e.hasKey kind subject then e.take data else e)

/-- The worst entry among the entries not being sent: the newest of the worst priority, which stands last (R154). -/
def txWorst (q : List TxEntry) : Option TxEntry := (q.filter (fun e => !e.sending)).getLast?

/-- The queue without the waiting entry of a key. -/
def txWithout (q : List TxEntry) (kind : BitVec 5) (subject : Option Nat) : List TxEntry :=
  q.filter (fun e => !(e.hasKey kind subject && !e.sending))

/-- A new entry with attempt count 0 (R153). -/
def TxEntry.new (kind : BitVec 5) (subject : Option Nat) (data : List Byte) : TxEntry :=
  { kind := kind, subject := subject, data := data, attempts := 0, sending := false, replacement := none }

/-- What a request to send did: the queue after it, the kind of an entry that left or was refused, and whether
*tx dropped* counts it (R153, R154). -/
structure TxResult where
  queue    : List TxEntry
  departed : Option (BitVec 5)
  dropped  : Bool
deriving DecidableEq, Repr

/-- The number of entries the transmit queue can hold (R144). -/
def txCapacity : Nat := 8

/-- A request to send a frame, taken by key (R153), or decided by R154 at a full queue. -/
def txRequest (q : List TxEntry) (kind : BitVec 5) (subject : Option Nat) (data : List Byte) : TxResult :=
  if q.any (fun e => e.hasKey kind subject) then
    { queue := txReplace q kind subject data, departed := none, dropped := false }
  else if q.length < txCapacity then
    { queue := txPlace (TxEntry.new kind subject data) q, departed := none, dropped := false }
  else
    match txWorst q with
    | none => { queue := q, departed := some kind, dropped := true }
    | some w =>
      if priorityOf kind < priorityOf w.kind then
        { queue := txPlace (TxEntry.new kind subject data) (txWithout q w.kind w.subject),
          departed := some w.kind, dropped := true }
      else { queue := q, departed := some kind, dropped := true }

/-- The request's effect on the Line Port: the queue, and *tx dropped* (R154). -/
def State.queueFrame (s : State) (r : TxResult) : State :=
  let s := s.setLine { s.line with tx := r.queue }
  if r.dropped then s.setTally { s.tally with txDropped := bump16 s.tally.txDropped } else s

/-! ## Tally reports (R167) -/

/-- Two bytes of a 16-bit counter, most significant first. -/
def twoBytes (n : Nat) : List Byte := [byteOf n 1, byteOf n 0]

/-- Byte 1 of a report part: the report index in bits 7–3, the part number in bits 2–0. -/
def reportHead (index part : Nat) : Byte := BitVec.ofNat 8 (index * 8 + part)

/-- The six data bytes of a report part, from the snapshot (R167). -/
def reportData (snap : Snapshot) (index part : Nat) : List Byte :=
  let o := snap.own
  let t := snap.stations.getD index StationTallies.zero
  reportHead index part ::
    (if index < 16 then
      if part = 1 then twoBytes t.hits ++ twoBytes t.misses ++ [byteOf t.slips 0]
      else twoBytes t.mismatches ++ [byteOf t.absents 0, 0#8, 0#8]
    else
      if part = 1 then twoBytes o.rxCheckErrors ++ twoBytes o.rxOverflow ++ [byteOf o.lineFaults 0]
      else if part = 2 then twoBytes o.foreignFrames ++ twoBytes o.undelivered ++ [byteOf o.chimesDisplaced 0]
      else if part = 3 then twoBytes o.txDropped ++ twoBytes o.holdsSeen ++ [byteOf o.odometerDisagree 0]
      else twoBytes o.distanceGaps ++ twoBytes o.fuelGaps ++ [0#8])

/-- The parts of the report of an index: two for a station, four for index 16 (R167). -/
def reportParts (index : Nat) : List (Nat × Nat) :=
  if index < 16 then [(index, 1), (index, 2)] else [(index, 1), (index, 2), (index, 3), (index, 4)]

/-- Queues the first of the parts given; a part that is refused at a full queue leaves at once, and the next is queued
in its turn (R167). -/
def sendReports (parts : List (Nat × Nat)) (s : State) : State :=
  match parts with
  | [] => s.setPeer { s.peer with report := [] }
  | p :: rest =>
    let r := txRequest s.line.tx kindTallyReport (some p.1) (reportData s.peer.snapshot p.1 p.2)
    let s := s.queueFrame r
    if r.departed.isSome then sendReports rest s
    else s.setPeer { s.peer with report := p :: rest }

/-- The report of a departure (R151): on that of a TALLY REPORT the next part is queued (R167). -/
def State.departure (s : State) (kind : BitVec 5) : State :=
  if kind = kindTallyReport then sendReports s.peer.report.tail s else s

/-- A request to send a frame with its departures (R151, R153, R154, R167; log 17). -/
def State.sendFrame (s : State) (kind : BitVec 5) (subject : Option Nat) (data : List Byte) : State :=
  let r := txRequest s.line.tx kind subject data
  let s := s.queueFrame r
  match r.departed with
  | some k => s.departure k
  | none => s

/-! ## Attempts (R150, R151) -/

/-- The entry in transmission, if an attempt is in progress. -/
def txSending (q : List TxEntry) : Option TxEntry := q.find? (fun e => e.sending)

/-- Marks the head entry as being sent. -/
def txBegin (q : List TxEntry) : List TxEntry :=
  match q with
  | [] => []
  | e :: rest => { e with sending := true } :: rest

/-- An entry that stays after its attempt or a lost arbitration: its replacement becomes its data (R153). -/
def TxEntry.stay (e : TxEntry) : TxEntry :=
  { e with sending := false, data := e.replacement.getD e.data, replacement := none }

/-- The queue after a lost arbitration: the entry is kept and its attempt count is unchanged (R150). -/
def txLost (q : List TxEntry) : List TxEntry := q.map (fun e => if e.sending then e.stay else e)

/-- The queue after an attempt that keeps its entry with one attempt more (R151). -/
def txKeep (q : List TxEntry) : List TxEntry :=
  q.map (fun e => if e.sending then { e.stay with attempts := e.attempts + 1 } else e)

/-- The queue after an attempt that removes its entry; a replacement becomes a new entry, the newest of its priority
(R153). -/
def txRemove (q : List TxEntry) : List TxEntry :=
  let q' := q.filter (fun e => !e.sending)
  match txSending q with
  | some e =>
    match e.replacement with
    | some d => txPlace (TxEntry.new e.kind e.subject d) q'
    | none => q'
  | none => q'

/-- The end of the attempt in progress, with the ACK slot read as `ack` (R151). A STATUS is not retried; the third
attempt without ACK removes the entry as undelivered. -/
def State.endAttempt (s : State) (ack : Bool) : State :=
  match txSending s.line.tx with
  | none => s
  | some e =>
    if ack || e.kind == kindStatus then
      (s.setLine { s.line with tx := txRemove s.line.tx }).departure e.kind
    else if e.attempts + 1 < 3 then
      s.setLine { s.line with tx := txKeep s.line.tx }
    else
      let s := s.setLine { s.line with tx := txRemove s.line.tx }
      (s.setTally { s.tally with undelivered := bump16 s.tally.undelivered }).departure e.kind

end Sys2Proof.Machine
end

