-- ==== Sys2Proof/Machine/WriteQueue.lean ====
section
/-! DEFINITION. The serial memory's areas and check words (R26, R171, R177), the words of each write (R28, R57, R118,
R127), and the write queue (R179). -/

namespace Sys2Proof.Machine

/-! ## Addresses (R177) -/

def odometerBase : Nat := 384
def serviceBase : Nat := 400
def tripBase : Nat := 425
def countersBase : Nat := 442

/-- The words of the serial memory (R177). -/
def memoryWords : Nat := 512

/-! ## Checks -/

/-- The check word of an area: 65,535 less the sum of its other words modulo 65,536 (R171). -/
def checkWord (ws : List Word) : Word := 0xFFFF#16 - ws.foldl (· + ·) 0#16

/-- The check byte of an odometer slot: 255 less the sum of the three value bytes modulo 256 (R26). -/
def slotCheck (value : Nat) : Byte := 255#8 - (byteOf value 2 + byteOf value 1 + byteOf value 0)

/-- The two words of an odometer slot (R177). -/
def slotWords (value : Nat) : List Word :=
  [BitVec.ofNat 16 (value / 256), byteOf value 0 ++ slotCheck value]

/-- The value of a slot's two words. -/
def slotValue (w0 w1 : Word) : Nat := w0.toNat * 256 + w1.toNat / 256

/-- Whether a slot is valid: its check byte is right and its value is at most 9,999,999 (R26). -/
def slotValid (w0 w1 : Word) : Bool :=
  w1.truncate 8 == slotCheck (slotValue w0 w1) && decide (slotValue w0 w1 ≤ 9999999)

/-! ## The words a write carries -/

/-- An area's words followed by their check word (R179). -/
def withCheck (ws : List Word) : List Word := ws ++ [checkWord ws]

/-- The four words of a service item (R177). -/
def itemWords (i : ServiceItem) : List Word :=
  [byteOf i.odoBase 2 ++ byteOf i.hoursBase 2, wordOf i.odoBase 0, wordOf i.dayBase 0, wordOf i.hoursBase 0]

/-- The SERVICE area: the three baselines of every item (R127). -/
def serviceWords (items : List ServiceItem) : List Word := withCheck (items.flatMap itemWords)

/-- The three low words of a trip record: tens of metres, tens of millilitres, whole minutes (R57, R177). -/
def recordWords (r : TripRecord) : List Word :=
  [wordOf (r.dist / 10) 0, wordOf (r.fuel / 10) 0, wordOf (r.elapsed / 60) 0]

/-- Bits 19–16 of a saved distance. -/
def highDist (r : TripRecord) : Nat := (r.dist / 10) / 65536

/-- Bit 16 of a saved fuel volume. -/
def highFuel (ml : Nat) : Nat := (ml / 10) / 65536 % 2

/-- The TRIP area (R57, R177). -/
def tripWords (t : Trip) : List Word :=
  withCheck (recordWords t.a ++ recordWords t.b ++ recordWords t.snapA ++ recordWords t.snapB ++
    [wordOf (t.winDist / 10) 0, wordOf (t.winFuel / 10) 0,
     BitVec.ofNat 16 (highDist t.a * 4096 + highDist t.b * 256 + highDist t.snapA * 16 + highDist t.snapB),
     BitVec.ofNat 16 (highFuel t.winFuel * 16 + highFuel t.a.fuel * 8 + highFuel t.b.fuel * 4 +
       highFuel t.snapA.fuel * 2 + highFuel t.snapB.fuel)])

/-- The COUNTERS area: engine hours and day counter (R118, R177). -/
def countersWords (hours day : Nat) : List Word := withCheck [wordOf hours 1, wordOf hours 0, wordOf day 0]

/-! ## The write queue (R179) -/

/-- A request: it replaces the data of a pending entry with its key, or becomes the newest entry. -/
def writeRequest (q : List WriteEntry) (key : WriteKey) (data : List Word) : List WriteEntry :=
  if q.any (fun e => e.key == key) then q.map (fun e => if e.key == key then { e with data := data } else e)
  else q ++ [{ key := key, data := data }]

/-- Places a request in the write queue. -/
def State.requestWrite (s : State) (key : WriteKey) (data : List Word) : State :=
  s.setPw { s.pw with queue := writeRequest s.pw.queue key data }

/-- Requests an ODOMETER slot write of the odometer in force, provided odometer-unknown is clear (R28, R29). -/
def State.requestOdometer (s : State) : State :=
  if s.acc.odoUnknown then s else s.requestWrite .odometer (slotWords s.acc.odo)

/-- Requests a SERVICE write of the baselines as they stand (R127). -/
def State.requestService (s : State) : State := s.requestWrite .service (serviceWords s.service.items)

/-- Requests a TRIP write of the records as they stand (R57). -/
def State.requestTrip (s : State) : State := s.requestWrite .trip (tripWords s.trip)

/-- Requests a COUNTERS write of the engine hours and day counter as they stand (R118). -/
def State.requestCounters (s : State) : State :=
  s.requestWrite .counters (countersWords s.service.hours s.readout.day)

/-- The pending entry that is written next: the ODOMETER entry if there is one, otherwise the oldest (R179). -/
def nextWrite (q : List WriteEntry) : Option WriteEntry :=
  match q.find? (fun e => e.key == .odometer) with
  | some e => some e
  | none => q.head?

/-- The target slot of an ODOMETER write: the one after the current slot index, or slot 0 (R28). -/
def targetSlot (current : Option Nat) : Nat :=
  match current with
  | none => 0
  | some n => (n + 1) % 8

/-- The address of a write's first word (R177). -/
def writeBase (key : WriteKey) (slot : Nat) : Nat :=
  match key with
  | .odometer => odometerBase + 2 * slot
  | .service => serviceBase
  | .trip => tripBase
  | .counters => countersBase
  | .calWord a => a

/-- Whether a write may begin (R179). -/
def writeMayBegin (s : State) : Bool :=
  s.pw.writing.isNone && !s.pw.queue.isEmpty &&
    (s.pw.state == .stabilise || s.pw.state == .standby || s.pw.state == .active || s.pw.state == .crank)

/-- Whether the write queue is empty with no write in progress (R173, R175). -/
def writesDone (s : State) : Bool := s.pw.queue.isEmpty && s.pw.writing.isNone

end Sys2Proof.Machine
end

