-- ==== Sys2Proof/Machine/TripOps.lean ====
section
/-! DEFINITION. The Trip Computer: records and restarts (R35 to R38), the level filter (R39 to R42), the tank curve
(R44), the range window and range (R46 to R49), averages and current economy (R51 to R54), and conversions (R55). -/

namespace Sys2Proof.Machine

/-! ## Trip records -/

def maxDist : Nat := 9999999
def maxFuel : Nat := 999999
def maxElapsed : Nat := 359999

/-- A record with its last-trip snapshot after an addition to its three fields. An addition that would carry a field
past its maximum first restarts the record: the record goes to the snapshot and is cleared (R35, R36). -/
def recordAdd (r snap : TripRecord) (dist fuel elapsed : Nat) : TripRecord × TripRecord :=
  if r.dist + dist ≤ maxDist ∧ r.fuel + fuel ≤ maxFuel ∧ r.elapsed + elapsed ≤ maxElapsed then
    ({ dist := r.dist + dist, fuel := r.fuel + fuel, elapsed := r.elapsed + elapsed }, snap)
  else ({ dist := dist, fuel := fuel, elapsed := elapsed }, r)

/-- An addition to both records, each taken separately (R35, R37). -/
def Trip.add (t : Trip) (dist fuel elapsed : Nat) : Trip :=
  let ra := recordAdd t.a t.snapA dist fuel elapsed
  let rb := recordAdd t.b t.snapB dist fuel elapsed
  { t with a := ra.1, snapA := ra.2, b := rb.1, snapB := rb.2 }

/-- A record and its snapshot after an accepted TRIP RESET (R38). -/
def recordReset (r snap : TripRecord) : TripRecord × TripRecord :=
  if r = TripRecord.zero then (r, snap) else (TripRecord.zero, r)

/-- An accepted TRIP RESET on the selected record (R38). -/
def Trip.reset (t : Trip) (sel : TripSel) : Trip :=
  match sel with
  | .a => let r := recordReset t.a t.snapA
          { t with a := r.1, snapA := r.2 }
  | .b => let r := recordReset t.b t.snapB
          { t with b := r.1, snapB := r.2 }

/-! ## The range window (R46, R47) -/

/-- Both sums halved, each rounded down. -/
def Trip.halve (t : Trip) : Trip := { t with winDist := t.winDist / 2, winFuel := t.winFuel / 2 }

/-- Whole metres added to the window; at 64,000 m or more both sums are halved at once (R46). -/
def Trip.windowMetres (t : Trip) (m : Nat) : Trip :=
  let t := { t with winDist := t.winDist + m }
  if 64000 ≤ t.winDist then t.halve else t

/-- Whole millilitres added to the window; where the fuel sum would pass its maximum both sums are first halved (R47). -/
def Trip.windowMillilitres (t : Trip) (ml : Nat) : Trip :=
  let t := if maxFuel < t.winFuel + ml then t.halve else t
  { t with winFuel := t.winFuel + ml }

/-- Whole metres handed on by the Accumulator: both records and the window (R21, R35, R46). -/
def Trip.addMetres (t : Trip) (m : Nat) : Trip := (t.add m 0 0).windowMetres m

/-- Whole millilitres handed on by the Accumulator: both records and the window (R22, R35, R47). -/
def Trip.addMillilitres (t : Trip) (ml : Nat) : Trip := (t.add 0 ml 0).windowMillilitres ml

/-! ## The level filter -/

/-- One filter step from `f` toward s × 256: a sixteenth of the difference truncated toward zero, but at least one
(R40). -/
def filterStep (f s : Nat) : Nat :=
  let target := s * 256
  if f < target then f + max 1 ((target - f) / 16)
  else if target < f then f - max 1 ((f - target) / 16)
  else f

/-- A good sender value reaches the filter (R39, R40, R41). -/
def Trip.senderValue (t : Trip) (p : Power) (s : Nat) : Trip :=
  if !t.received then { t with f := s * 256, received := true }
  else if p = .active then
    if t.fastFill ≠ 0 then { t with f := s * 256 } else { t with f := filterStep t.f s }
  else t

/-- The filtered level, 0 to 255 (R42). -/
def Trip.level (t : Trip) : Nat := t.f / 256

/-! ## Fuel remaining (R44, R45) -/

/-- Looks a level up between the breakpoint `p` at or below it and the breakpoints after `p` (R44). -/
def tankFrom (p : TankPoint) (rest : List TankPoint) (x : Nat) : Int :=
  match rest with
  | [] => p.volume
  | q :: rest' =>
    if q.sender ≤ x then tankFrom q rest' x
    else p.volume + Int.fdiv (((x : Int) - p.sender) * ((q.volume : Int) - p.volume)) ((q.sender : Int) - p.sender)

/-- The volume in tenths of a litre for a filtered level, the cases of R44 in the order they are written. Where the first two
points share a sender value, R44 says too that the second one's volume is taken: the model follows its first case (DEDUCED,
log 19). -/
def tankVolume (curve : List TankPoint) (x : Nat) : Nat :=
  match curve with
  | [] => 0
  | p :: rest => if x ≤ p.sender then p.volume else (tankFrom p rest x).toNat

/-- Fuel remaining in millilitres, none while it is unavailable (R44, R45). -/
def fuelRemaining (c : Cal) (t : Trip) : Option Nat :=
  if t.received then some (tankVolume c.tank t.level * 100) else none

/-! ## Range (R48, R49) -/

/-- Range in whole kilometres, clamped to 0–1,999; none while it is unavailable. -/
def rangeKm (c : Cal) (t : Trip) : Option Nat :=
  match fuelRemaining c t with
  | none => none
  | some ml =>
    some (min 1999
      (if 8000 ≤ t.winDist ∧ 1 ≤ t.winFuel then ml * t.winDist / (t.winFuel * 1000) else ml / c.economy))

/-! ## Averages and current economy -/

/-- The miles per gallon constant C (R52). -/
def mpgConstant (u : Units) : Nat := if u = .us then 23521 else 28248

/-- Average economy in tenths, none while it is unavailable (R51, R52). -/
def averageEconomy (u : Units) (r : TripRecord) : Option Nat :=
  if r.dist < 1000 then none
  else if u = .metric then some (min 999 (roundHalfUp (r.fuel * 1000) r.dist))
  else if r.fuel = 0 then some 999
  else some (min 999 (roundHalfUp (r.dist * mpgConstant u) (r.fuel * 1000)))

/-- Average speed in tenths of km/h, none while it is unavailable (R53). -/
def averageSpeed (r : TripRecord) : Option Nat :=
  if r.elapsed < 60 then none else some (min 2999 (roundHalfUp (r.dist * 36) r.elapsed))

/-- The sum of the distance pulses of some closed slots. -/
def slotDist (ring : List Slot) : Nat := (ring.map Slot.dist).sum

/-- The sum of the fuel pulses of some closed slots. -/
def slotFuel (ring : List Slot) : Nat := (ring.map Slot.fuel).sum

/-- Current economy in tenths, none while it is unavailable (R54). -/
def currentEconomy (c : Cal) (u : Units) (a : Accum) : Option Nat :=
  let d := slotDist a.ring
  let f := slotFuel a.ring
  if a.speed < 80 then none
  else if u = .metric then some (min 999 (roundHalfUp (f * c.kDist * 1000) (d * c.kFuel)))
  else if f = 0 then some 999
  else some (min 999 (roundHalfUp (d * c.kFuel * mpgConstant u) (f * c.kDist * 1000)))

/-! ## Conversions for display (R55) -/

/-- Kilometres, or tenths of a kilometre, to miles, rounded down. -/
def toMiles (n : Nat) : Nat := n * 62137 / 100000

/-- A distance or speed figure in the unit system. -/
def inUnits (u : Units) (n : Nat) : Nat := if u = .metric then n else toMiles n

/-- Trip distance in tenths of a km or mile. -/
def tripDistance (u : Units) (r : TripRecord) : Nat := inUnits u (r.dist / 100)

/-- Fuel used in tenths of a litre or gallon. -/
def fuelUsed (u : Units) (r : TripRecord) : Nat :=
  match u with
  | .metric => r.fuel / 100
  | .us => r.fuel * 26417 / 10000000
  | .imperial => r.fuel * 21997 / 10000000

/-- Outside temperature: °C, or °F as the half-up rounding of °C × 9 / 5, plus 32. -/
def temperature (u : Units) (c : Int) : Int :=
  if u = .metric then c else Int.fdiv (c * 18 + 5) 10 + 32

/-- Elapsed hours and minutes. -/
def elapsedHours (r : TripRecord) : Nat := r.elapsed / 3600

def elapsedMinutes (r : TripRecord) : Nat := r.elapsed % 3600 / 60

end Sys2Proof.Machine
end

