-- ==== Sys2Proof/Machine/Flags.lean ====
section
/-! DEFINITION. The conditions the blocks compute from one another's state: freshness, remote bits (R16), computed terms
and their latches (R84, R85), warning terms (R83), lamps (R98, R99), the return-complete condition (R71), the foremost
warning (R97) and the keep-awake reasons (R172). -/

namespace Sys2Proof.Machine

/-! ## Freshness and remote bits -/

/-- FRESH or STALE: the values of the entry stand (R16). -/
def Freshness.held (f : Freshness) : Bool := f == .fresh || f == .stale

/-- The header of the entry of a signal kind. -/
def Signals.hdr (t : Signals) (k : SignalKind) : SigHeader :=
  match k with
  | .engine => t.engineHdr
  | .chassis => t.chassisHdr
  | .body => t.bodyHdr
  | .fuelLevel => t.fuelHdr

/-- The Signal Table with the header of one entry replaced. -/
def Signals.setHdr (t : Signals) (k : SignalKind) (h : SigHeader) : Signals :=
  match k with
  | .engine => { t with engineHdr := h }
  | .chassis => { t with chassisHdr := h }
  | .body => { t with bodyHdr := h }
  | .fuelLevel => { t with fuelHdr := h }

/-- The flag of a signal entry with a bit number; false beyond the last listed (R16). -/
def Signals.flag (t : Signals) (k : SignalKind) (bit : Nat) : Bool :=
  match k, bit with
  | .engine, 0 => t.engine.chargeFault
  | .engine, 1 => t.engine.checkEngine
  | .engine, 2 => t.engine.oilSwitch
  | .chassis, 0 => t.chassis.fluidLow
  | .chassis, 1 => t.chassis.parkingBrake
  | .chassis, 2 => t.chassis.padWear
  | .body, 0 => t.body.door1
  | .body, 1 => t.body.door2
  | .body, 2 => t.body.door3
  | .body, 3 => t.body.door4
  | .body, 4 => t.body.partition
  | .body, 5 => t.body.headlamp
  | .body, 6 => t.body.bulbOut
  | .body, 7 => t.body.keyIn
  | .body, 8 => t.body.beltOpen
  | .fuelLevel, 0 => t.fuel.senderFault
  | _, _ => false

/-- A remote bit: the flag while the entry is FRESH or STALE, and false while it is NONE or LOST (R16). -/
def Signals.remote (t : Signals) (k : SignalKind) (bit : Nat) : Bool := (t.hdr k).fresh.held && t.flag k bit

/-! ## Computed terms (R84, R85) -/

/-- A latch: set by its set condition while clear, cleared by its clear condition while set (R84). -/
def latchNext (latch setNow clearNow : Bool) : Bool := if latch then !clearNow else setNow

/-- The FUEL LOW latch after an evaluation. -/
def fuelLowNext (c : Cal) (t : Trip) (latch : Bool) : Bool :=
  match fuelRemaining c t with
  | none => false
  | some ml => latchNext latch (decide (ml < c.lowLevel * 100)) (decide (c.lowLevel * 100 + 2000 ≤ ml))

/-- The COOLANT HOT latch after an evaluation. -/
def coolantHotNext (c : Cal) (t : Signals) (latch : Bool) : Bool :=
  t.engineHdr.fresh.held &&
    latchNext latch (decide ((c.hot : Int) ≤ t.engine.coolant)) (decide (t.engine.coolant ≤ (c.hot : Int) - 3))

/-- The OVERSPEED latch after an evaluation; `limit` in whole km/h. -/
def overspeedNext (limit speed : Nat) (t : Signals) (latch : Bool) : Bool :=
  t.chassisHdr.fresh.held && decide (limit ≠ 0) &&
    latchNext latch (decide (limit * 10 ≤ speed)) (decide (speed + 20 ≤ limit * 10))

/-- OIL LOW (R85). -/
def oilLow (c : Cal) (t : Signals) : Bool :=
  t.engineHdr.fresh == .fresh && decide (400 ≤ t.engine.speed) && decide (t.engine.oil < c.oil)

/-- The record of a station; a number without a record reads as after reset. -/
def Peer.station (p : Peer) (n : StationNo) : Station := p.stations.getD n.toNat Station.reset

/-- Whether a station is ABSENT (R9). -/
def Peer.isAbsent (p : Peer) (n : StationNo) : Bool := (p.station n).state == .absent

/-- The value of a computed term at an evaluation, with the latches and call-pending as that evaluation has them
(R84 to R86); a code above 13 reads false (R80). -/
def computedTerm (s : State) (w : WarnUnit) (call : Bool) (code : Nat) : Bool :=
  match code with
  | 0 => w.fuelLow
  | 1 => w.coolantHot
  | 2 => oilLow s.cal s.sig
  | 3 => w.overspeed
  | 4 => s.service.items.any (fun i => i.state == .soon)
  | 5 => s.service.items.any (fun i => i.state == .due || i.state == .overdue)
  | 6 => (match s.cal.watched with | some n => s.peer.isAbsent n | none => false)
  | 7 => s.peer.stations.any (fun r => r.state == .slip)
  | 8 => s.line.fault
  | 9 => s.acc.unknownCond || s.acc.disagree
  | 10 => s.pw.calFault
  | 11 => call
  | 12 => s.readout.unset
  | 13 => s.peer.clash
  | _ => false

/-- The value of a term (R79, R83). -/
def termValue (s : State) (w : WarnUnit) (call : Bool) (t : Term) : Bool :=
  match t with
  | .pin n => w.pinTerms.getLsbD n
  | .remote k bit => s.sig.remote k bit
  | .computed code => computedTerm s w call code
  | .never => false

/-- The combined condition of an entry (R83). -/
def combined (s : State) (w : WarnUnit) (call : Bool) (c : WarnCfg) : Bool :=
  let t1 := termValue s w call c.term1
  let t2 := termValue s w call c.term2
  match c.op with
  | .none => t1
  | .and => t1 && t2
  | .or => t1 || t2
  | .andNot => t1 && !t2

/-- Whether a gate is met in a power state (R87). -/
def gateMet (g : Gate) (p : Power) : Bool :=
  match g with
  | .any => p == .standby || p == .active
  | .run => p == .active
  | .off => p == .standby

/-- Whether an audience includes a role (R89). -/
def Audience.includes (a : Audience) (r : Role) : Bool :=
  match a, r with
  | .both, _ => true
  | .front, .front => true
  | .rear, .rear => true
  | _, _ => false

/-- The entry at a position of the warning table, none where the position is not in use. -/
def WarnUnit.entry (w : WarnUnit) (n : Nat) : Option Warning := (w.table.getD n none)

/-- The warning table with the entry at one position replaced. -/
def WarnUnit.setEntry (w : WarnUnit) (n : Nat) (e : Warning) : WarnUnit :=
  { w with table := updateAt w.table n (fun _ => some e) }

/-! ## Classes and the foremost warning (R97) -/

/-- The rank of a class, A first. -/
def Class.rank (k : Class) : Nat :=
  match k with
  | .a => 0
  | .b => 1
  | .c => 2

/-- Whether entry `x` goes before entry `y` among ACTIVE entries: a better class, or the same and an earlier raise
order. -/
def raisedBefore (x y : Warning) : Bool :=
  decide (x.cfg.cls.rank < y.cfg.cls.rank) ||
    (decide (x.cfg.cls.rank = y.cfg.cls.rank) && decide (x.raise.getD 0 < y.raise.getD 0))

/-- Among the ACTIVE entries whose audience includes the role, from position `n` on, the best one; `best` is the best
found before. -/
def bestActive (r : Role) (table : List (Option Warning)) (n : Nat) (best : Option (Nat × Warning)) : Option Nat :=
  match table with
  | [] => best.map Prod.fst
  | none :: rest => bestActive r rest (n + 1) best
  | some e :: rest =>
    if e.state == .active && e.cfg.audience.includes r then
      match best with
      | none => bestActive r rest (n + 1) (some (n, e))
      | some (m, b) => bestActive r rest (n + 1) (if raisedBefore e b then some (n, e) else some (m, b))
    else bestActive r rest (n + 1) best

/-- The foremost warning, if any (R97). -/
def foremost (s : State) : Option Nat :=
  match s.chime.queue with
  | e :: _ => some e.warning
  | [] => bestActive s.pw.role s.warn.table 0 none

/-! ## Lamps (R98, R99) -/

/-- Whether an entry is assigned to a lamp and lights it. -/
def lightsLamp (lamp : Nat) (e : Option Warning) : Bool :=
  match e with
  | some w => w.cfg.lamp == some lamp && (w.state == .active || w.state == .acked)
  | none => false

/-- Whether an entry is a class A entry, ACTIVE, and assigned to a lamp. -/
def flashesLamp (lamp : Nat) (e : Option Warning) : Bool :=
  match e with
  | some w => w.cfg.lamp == some lamp && w.state == .active && w.cfg.cls == .a
  | none => false

/-- The state of a lamp from the entries and the lamp test (R98). -/
def lampStateOf (w : WarnUnit) (lamp : Nat) : LampState :=
  if w.lampTest.isSome then .steady
  else if w.table.any (flashesLamp lamp) then .flash
  else if w.table.any (lightsLamp lamp) then .steady
  else .off

/-- The twelve lamp states taken anew from the entries and the lamp test. -/
def WarnUnit.refreshLamps (w : WarnUnit) : WarnUnit := { w with lamps := (List.range 12).map (lampStateOf w) }

/-- Whether a lamp output is driven (R99). The lamps of a part in LOAD or SLEEP are OFF or released. -/
def lampDriven (s : State) (lamp : Nat) : Bool :=
  if s.pw.state == .load || s.pw.state == .sleep then false else
  match s.warn.lamps.getD lamp .off with
  | .off => false
  | .steady => true
  | .flash => decide (s.warn.flash ≤ 4)

/-! ## Return complete (R71) and keep-awake (R172) -/

/-- Whether a channel counts as complete. -/
def Channel.complete (c : Channel) : Bool := c.state == .off || (c.state == .returning && c.angle == 0)

/-- The return-complete condition of the Gauge Driver (R71). -/
def returnComplete (s : State) : Bool := s.gauges.all Channel.complete

/-- Whether an entry is ACTIVE, whatever its audience and lamp (R101). -/
def entryActive (e : Option Warning) : Bool :=
  match e with
  | some w => w.state == .active
  | none => false

/-- The keep-awake reasons other than a waiting write: BODY bits and ACTIVE warnings (R172). -/
def awakeReason (s : State) : Bool :=
  s.sig.remote .body 7 || s.sig.remote .body 0 || s.sig.remote .body 1 || s.sig.remote .body 2 ||
    s.sig.remote .body 3 || s.sig.remote .body 5 || s.warn.table.any entryActive

/-- Every keep-awake reason; a write counts only while no return stage is in progress (R172, R173; log 23). -/
def keepAwake (s : State) : Bool := awakeReason s || (!s.pw.returning && !writesDone s)

/-- Power and Timebase takes account of the keep-awake reasons as they stand (R172, R173): outside STANDBY there is no
timer and no return stage; in a return stage a reason ends it; otherwise a reason stops the timer, and without one a
stopped timer starts at 0. -/
def PowerUnit.settle (p : PowerUnit) (awake : Bool) : PowerUnit :=
  if p.state ≠ .standby then { p with keepAlive := none, returning := false }
  else if awake then { p with keepAlive := none, returning := false }
  else if p.returning then { p with keepAlive := none }
  else match p.keepAlive with
    | none => { p with keepAlive := some 0 }
    | some _ => p

/-- What follows at once from every step: the lamps follow their entries (R98), and the keep-alive timer and the return
stage follow the keep-awake reasons (R172, R173). -/
def State.finish (s : State) : State :=
  let s := s.setWarn s.warn.refreshLamps
  s.setPw (s.pw.settle (keepAwake s))

/-! ## Which states run what -/

/-- The Dispatcher takes frames in STANDBY, ACTIVE and CRANK (R1). -/
def dispatcherRuns (p : Power) : Bool := p == .standby || p == .active || p == .crank

/-- The receiver runs in every state but SLEEP (R157). -/
def receiverRuns (p : Power) : Bool := p != .sleep

/-- The gauge tick works in STABILISE, STANDBY and ACTIVE (R64). -/
def gaugesRun (p : Power) : Bool := p == .stabilise || p == .standby || p == .active

/-- The conditions under which SLEEP is entered (R173). -/
def sleepConditions (s : State) : Bool :=
  s.pw.state == .standby && s.pw.returning && returnComplete s && writesDone s && s.line.tx.isEmpty

end Sys2Proof.Machine
end

