-- ==== Sys2Proof/Machine/GaugeOps.lean ====
section
/-! DEFINITION. The Gauge Driver: sources (R61), the curve (R66), movement (R67), the channel states (R65, R68 to R70),
and the coil drive (R75 to R77). -/

namespace Sys2Proof.Machine

/-! ## Sources (R61) -/

/-- The value a source supplies, in its internal unit. -/
def sourceValue (s : State) (src : Source) : Int :=
  match src with
  | .off => 0
  | .speed => s.acc.speed
  | .engineSpeed => s.sig.engine.speed
  | .fuelLevel => s.trip.level
  | .coolant => s.sig.engine.coolant
  | .oil => s.sig.engine.oil
  | .battery => s.sig.body.battery

/-- The freshness a source supplies; that of the fuel level is NONE while level received is clear. -/
def sourceFreshness (s : State) (src : Source) : Freshness :=
  match src with
  | .off => .none
  | .speed => s.sig.chassisHdr.fresh
  | .engineSpeed => s.sig.engineHdr.fresh
  | .fuelLevel => if s.trip.received then s.sig.fuelHdr.fresh else .none
  | .coolant => s.sig.engineHdr.fresh
  | .oil => s.sig.engineHdr.fresh
  | .battery => s.sig.bodyHdr.fresh

/-! ## The curve (R66) -/

/-- Looks a source value up between the point `p` at or below it and the points after `p`. -/
def curveFrom (p : CurvePoint) (rest : List CurvePoint) (x : Int) : Int :=
  match rest with
  | [] => p.angle
  | q :: rest' =>
    if q.input ≤ x then curveFrom q rest' x
    else p.angle + Int.fdiv ((x - p.input) * ((q.angle : Int) - p.angle)) (q.input - p.input)

/-- The angle of a curve at a source value, the cases of R66 in the order they are written. Where the first two points share an
input, R62 says that the lookup uses the later of them and the first case of R66 gives the first: the model follows R66 (DEDUCED,
log 19). -/
def curveAngle (curve : List CurvePoint) (x : Int) : Int :=
  match curve with
  | [] => 0
  | p :: rest => if x ≤ p.input then p.angle else curveFrom p rest x

/-- The target of a TRACKING channel: the curve's angle clamped to 0 to the full scale (R66). -/
def trackingTarget (c : ChannelCal) (x : Int) : Nat := min (curveAngle c.curve x).toNat c.fullScale

/-! ## Movement (R67) -/

/-- The magnitude of one movement for an error of size `err`. -/
def moveMagnitude (err damping slew : Nat) : Nat :=
  min (if err / 2 ^ damping = 0 then min 1 err else err / 2 ^ damping) slew

/-- The angle after one movement toward the target. -/
def moveAngle (angle target damping slew : Nat) : Nat :=
  if angle < target then angle + moveMagnitude (target - angle) damping slew
  else angle - moveMagnitude (angle - target) damping slew

/-! ## Coil drive (R75 to R77) -/

/-- The quarter-wave table: entry i is 255 × sin(i × 90 / 64 degrees), rounded (R75). -/
def sineTable : List Nat :=
  [0, 6, 13, 19, 25, 31, 37, 44, 50, 56, 62, 68, 74, 80, 86, 92,
   98, 103, 109, 115, 120, 126, 131, 136, 142, 147, 152, 157, 162, 167, 171, 176,
   180, 185, 189, 193, 197, 201, 205, 208, 212, 215, 219, 222, 225, 228, 231, 233,
   236, 238, 240, 242, 244, 246, 247, 249, 250, 251, 252, 253, 254, 254, 255, 255, 255]

/-- Entry i of the quarter-wave table. -/
def sineEntry (i : Nat) : Nat := sineTable.getD i 0

/-- A released coil: duty 0, no current (R77). DESIGN CHOICE (log 34): the spec gives a released coil no polarity; the model
holds positive, which has no effect on the output. -/
def Coil.released : Coil := { duty := 0, positive := true }

/-- The drive of coil A and coil B for an angle in quarter-degrees (R76). -/
def coilDrive (a : Nat) : Coil × Coil :=
  let i := a % 360 * 64 / 360
  match a / 360 with
  | 0 => ({ duty := sineEntry i, positive := true }, { duty := sineEntry (64 - i), positive := true })
  | 1 => ({ duty := sineEntry (64 - i), positive := true }, { duty := sineEntry i, positive := false })
  | 2 => ({ duty := sineEntry i, positive := false }, { duty := sineEntry (64 - i), positive := false })
  | _ => ({ duty := sineEntry (64 - i), positive := false }, { duty := sineEntry i, positive := true })

/-- A channel with its coils driven at its current angle (R76). -/
def Channel.drive (c : Channel) : Channel :=
  { c with coilA := (coilDrive c.angle).1, coilB := (coilDrive c.angle).2 }

/-- A channel with both coils released (R77). -/
def Channel.release (c : Channel) : Channel := { c with coilA := Coil.released, coilB := Coil.released }

/-! ## Updates (R64, R65) -/

/-- The state a configured channel decides at an update (R65). -/
def decideState (returning : Bool) (f : Freshness) : ChannelState :=
  if returning then .returning else
  match f with
  | .fresh => .tracking
  | .stale => .holding
  | .none => .resting
  | .lost => .resting

/-- The angle a channel takes at an update, by the state it has decided (R66 to R70). -/
def nextAngle (c : Channel) (st : ChannelState) (x : Int) : Nat :=
  match st with
  | .tracking => moveAngle c.angle (trackingTarget c.cal x) c.cal.damping c.cal.slew
  | .resting => moveAngle c.angle 0 c.cal.damping c.cal.slew
  | .returning => moveAngle c.angle 0 0 64
  | .holding => c.angle
  | .off => c.angle
  | .parked => c.angle

/-- One update of a channel: the tick count is set to 0, the state decided, the angle moved, the duties set. A channel
whose source is OFF makes no update (R65, R74). -/
def Channel.update (c : Channel) (returning : Bool) (f : Freshness) (x : Int) : Channel :=
  if c.cal.source = .off then c else
  let st := decideState returning f
  { c with tick := 0, state := st, angle := nextAngle c st x }.drive

/-- One update of a channel from the part's state. -/
def State.updateChannel (s : State) (c : Channel) : Channel :=
  c.update s.pw.returning (sourceFreshness s c.cal.source) (sourceValue s c.cal.source)

/-- Whether the next gauge tick brings a channel's tick count to its divider, and with it an update (R64; log 5). -/
def Channel.due (c : Channel) : Bool := c.state != .off && c.cal.source != .off && decide (c.cal.divider ≤ c.tick + 1)

/-- A gauge tick at one channel: a channel that is not OFF increases its tick count by one, and one whose count then equals
its divider sets it to 0 and makes its update at once (R64). -/
def State.tickChannel (s : State) (c : Channel) : Channel :=
  if c.state = .off then c
  else if c.cal.divider ≤ c.tick + 1 then s.updateChannel { c with tick := 0 }
  else { c with tick := c.tick + 1 }

/-- A channel at entry to SLEEP: parked and released, unless it is OFF (R72). -/
def Channel.park (c : Channel) : Channel :=
  if c.cal.source = .off then c else { c with state := .parked }.release

/-- A channel at the end of LOAD with its calibration taken (R62, R74, R77). -/
def Channel.loaded (cal : ChannelCal) : Channel :=
  let c : Channel := { cal := cal, angle := 0, state := if cal.source = .off then .off else .resting, tick := 0,
                       coilA := Coil.released, coilB := Coil.released }
  if cal.source = .off then c else c.drive

end Sys2Proof.Machine
end

