-- ==== Sys2Proof/Machine/ChimeOps.lean ====
section
/-! DEFINITION. The Chime Sequencer: the queue (R103 to R105), patterns (R107, R108), preemption (R109), CRANK (R110),
clicks (R111, R112), and the tone output (R106, R113). -/

namespace Sys2Proof.Machine

/-- The number of entries the chime queue can hold (R102). -/
def chimeCapacity : Nat := 8

/-! ## Patterns (R107) -/

/-- A step of a pattern: a tone of a frequency in Hz, 0 for a gap, and its length in ms. -/
structure ToneStep where
  hertz  : Nat
  length : Nat
deriving DecidableEq, Repr

/-- The steps of the pattern of a class. -/
def patternSteps (k : Class) : List ToneStep :=
  match k with
  | .a => [⟨1600, 600⟩, ⟨0, 400⟩]
  | .b => [⟨2000, 150⟩, ⟨0, 150⟩, ⟨2000, 150⟩, ⟨0, 150⟩, ⟨2000, 150⟩, ⟨0, 150⟩]
  | .c => [⟨1000, 400⟩]

/-- The length of a step of a class's pattern. -/
def stepLength (k : Class) (index : Nat) : Nat := ((patternSteps k).getD index ⟨0, 0⟩).length

/-- The last step of a class's pattern; pattern A has none, since it starts again (R107). -/
def lastStep (k : Class) : Option Nat :=
  match k with
  | .a => none
  | .b => some 5
  | .c => some 0

/-- The step that follows a step: pattern A goes back to its first. -/
def nextStep (k : Class) (index : Nat) : Nat :=
  match k with
  | .a => if index = 0 then 1 else 0
  | .b => index + 1
  | .c => index + 1

/-- The class of the entry whose pattern is sounding. -/
def Chimes.playingClass (c : Chimes) : Option Class :=
  match c.playing with
  | none => none
  | some w => (c.queue.find? (fun e => e.warning == w)).map ChimeEntry.cls

/-! ## The generator -/

/-- The generator passes to the head (R108). -/
def Chimes.passToHead (c : Chimes) (now : Nat) : Chimes :=
  if c.mode = .silent then c else
  match c.queue with
  | [] => { c with mode := .idle, playing := none, step := none, click := none }
  | e :: _ =>
    { c with mode := .pattern, playing := some e.warning,
             step := some { index := 0, ends := now + stepLength e.cls 0 }, click := none }

/-- The generator falls silent; the queue is not changed (R106, R110). -/
def Chimes.silence (c : Chimes) : Chimes :=
  { c with mode := .silent, playing := none, step := none, click := none }

/-- The generator leaves SILENT at entry to STANDBY or ACTIVE from LOAD or STABILISE (R106), and at the end of CRANK,
and passes to the head (R110). -/
def Chimes.awaken (c : Chimes) (now : Nat) : Chimes := ({ c with mode := .idle }).passToHead now

/-- The Chime Sequencer at entry to SLEEP: the queue emptied, the tone silenced (R102). -/
def Chimes.sleep (c : Chimes) : Chimes := { c.silence with queue := [] }

/-! ## Offers and removals -/

/-- Inserts an entry directly after the last entry whose class is the same as its own or better (R103). -/
def chimeInsert (e : ChimeEntry) (q : List ChimeEntry) : List ChimeEntry :=
  match q with
  | [] => [e]
  | x :: rest => if e.cls.rank < x.cls.rank then e :: x :: rest else x :: chimeInsert e rest

/-- The queue without a warning's entry; the entries behind it close up. -/
def chimeWithout (q : List ChimeEntry) (w : Nat) : List ChimeEntry := q.filter (fun e => e.warning != w)

/-- Whether the queue holds an entry for a warning. -/
def Chimes.holds (c : Chimes) (w : Nat) : Bool := c.queue.any (fun e => e.warning == w)

/-- What an offer did: the sequencer after it, the warnings reported, and whether *chimes displaced* counts it. -/
structure OfferResult where
  chime     : Chimes
  reports   : List Nat
  displaced : Bool
deriving DecidableEq, Repr

/-- A newcomer has become the head (R103): from IDLE or CLICK its pattern starts (R108); a pattern in progress is
preempted, a class B entry staying in the queue and a class C entry leaving it with a report (R109). -/
def Chimes.newHead (c : Chimes) (now : Nat) : Chimes × List Nat :=
  match c.mode, c.playing, c.playingClass with
  | .pattern, some w, some .c => (({ c with queue := chimeWithout c.queue w }).passToHead now, [w])
  | _, _, _ => (c.passToHead now, [])

/-- Inserts a newcomer and lets it preempt if it becomes the head (R103, R109). -/
def Chimes.insert (c : Chimes) (now w : Nat) (k : Class) : Chimes × List Nat :=
  let c' := { c with queue := chimeInsert { warning := w, cls := k } c.queue }
  if c'.queue.head? = some { warning := w, cls := k } then c'.newHead now else (c', [])

/-- An offer from the Warning Unit (R103), decided by R105 at a full queue. -/
def Chimes.offer (c : Chimes) (now w : Nat) (k : Class) : OfferResult :=
  if c.holds w then { chime := c, reports := [], displaced := false }
  else if c.queue.length < chimeCapacity then
    let r := c.insert now w k
    { chime := r.1, reports := r.2, displaced := false }
  else
    match c.queue.getLast? with
    | none => { chime := c, reports := [], displaced := true }
    | some last =>
      if k.rank < last.cls.rank then
        let r := ({ c with queue := c.queue.dropLast }).insert now w k
        { chime := r.1, reports := last.warning :: r.2, displaced := true }
      else { chime := c, reports := [], displaced := true }

/-- Removal on request (R104): the tone passes to the new head if the removed entry was playing. -/
def Chimes.remove (c : Chimes) (now w : Nat) : Chimes :=
  if c.holds w then
    let c' := { c with queue := chimeWithout c.queue w }
    if c.mode = .pattern ∧ c.playing = some w then c'.passToHead now else c'
  else c

/-! ## Clicks (R111, R112) -/

/-- A click request: it sounds from IDLE, restarts during a click, and is skipped in PATTERN and SILENT. -/
def Chimes.askClick (c : Chimes) (now : Nat) (refusal : Bool) : Chimes :=
  if c.mode = .idle ∨ c.mode = .click then
    { c with mode := .click, click := some { refusal := refusal, start := now, second := false } }
  else c

/-- The time a click sequence ends: 15 ms after its only click began, or 95 ms after a pair began. -/
def Click.ends (k : Click) : Nat := if k.refusal then k.start + 95 else k.start + 15

/-- The generator at the end of a click sequence. -/
def Chimes.endClick (c : Chimes) : Chimes := { c with mode := .idle, click := none }

/-- Whether a click sequence is sounding its tone at a time. -/
def Click.sounds (k : Click) (now : Nat) : Bool :=
  if k.refusal && k.second then decide (now < k.start + 95) else decide (now < k.start + 15)

/-- The tone output: frequency in Hz and amplitude in quarters of full swing, none at rest (R106, R107, R111, R113). -/
def toneOutput (s : State) : Option (Nat × Nat) :=
  match s.chime.mode with
  | .silent => none
  | .idle => none
  | .pattern =>
    match s.chime.playingClass, s.chime.step with
    | some k, some st =>
      let hz := ((patternSteps k).getD st.index ⟨0, 0⟩).hertz
      if hz = 0 then none else some (hz, s.pw.volume)
    | _, _ => none
  | .click =>
    match s.chime.click with
    | some k => if k.sounds s.pw.time then some (3000, s.pw.volume) else none
    | none => none

end Sys2Proof.Machine
end

