-- ==== Sys2Proof/Machine/WarnOps.lean ====
section
/-! DEFINITION. The Warning Unit: samples (R79), evaluation (R87), LEVEL entries (R88, R90), edge entries (R91, R92),
raising (R89), acknowledgement (R93, R95), marks (R96), and the lamp test (R100). -/

namespace Sys2Proof.Machine

/-! ## Chime requests and reports -/

/-- Whether an entry's trigger is an edge. -/
def WarnCfg.isEdge (c : WarnCfg) : Bool := c.trigger != .level

/-- A reported chime departure returns an edge entry in ACTIVE to QUIET (R92). -/
def State.chimeReport (s : State) (n : Nat) : State :=
  match s.warn.entry n with
  | some e => if e.cfg.isEdge && e.state == .active then s.setWarn (s.warn.setEntry n { e with state := .quiet }) else s
  | none => s

/-- Offers a chime entry and applies what the Chime Sequencer reports (R89, R103, R105, R114). -/
def State.offerChime (s : State) (n : Nat) (k : Class) : State :=
  let r := s.chime.offer s.pw.time n k
  let s := s.setChime r.chime
  let s := if r.displaced then s.setTally { s.tally with chimesDisplaced := bump8 s.tally.chimesDisplaced } else s
  r.reports.foldl State.chimeReport s

/-- Asks for the removal of a warning's chime entry (R104). -/
def State.removeChime (s : State) (n : Nat) : State := s.setChime (s.chime.remove s.pw.time n)

/-! ## Raising (R89) -/

/-- An entry rises: to ACKED if its mark is live, else to ACTIVE with the next raise order, and with a chime offered if
its audience includes the role. -/
def State.raiseWarning (s : State) (n : Nat) (e : Warning) : State :=
  match e.mark with
  | some _ => s.setWarn (s.warn.setEntry n { e with state := .acked, count := 0, mark := none, edgeTimer := 0 })
  | none =>
    let e' := { e with state := .active, count := 0, raise := some s.warn.nextRaise, edgeTimer := 0 }
    let s := s.setWarn { s.warn.setEntry n e' with nextRaise := s.warn.nextRaise + 1 }
    if e.cfg.audience.includes s.pw.role then s.offerChime n e.cfg.cls else s

/-! ## One entry at an evaluation -/

/-- Stores an entry whose chime entry is to be removed, and removes it. -/
def State.storeAndSilence (s : State) (n : Nat) (e : Warning) : State :=
  (s.setWarn (s.warn.setEntry n e)).removeChime n

/-- A LEVEL entry with its gate met (R88, R90); `e` already carries the new last condition. -/
def State.evalLevel (s : State) (n : Nat) (e : Warning) (cond : Bool) : State :=
  match e.state, cond with
  | .quiet, false => s.setWarn (s.warn.setEntry n e)
  | .quiet, true =>
    if e.cfg.debounce = 0 then s.raiseWarning n e
    else s.setWarn (s.warn.setEntry n { e with state := .pending, count := e.cfg.debounce })
  | .pending, true =>
    if e.count ≤ 1 then s.raiseWarning n e
    else s.setWarn (s.warn.setEntry n { e with count := e.count - 1 })
  | .pending, false => s.setWarn (s.warn.setEntry n { e with state := .quiet, count := 0 })
  | .active, true => s.setWarn (s.warn.setEntry n e)
  | .active, false => s.storeAndSilence n { e with state := .quiet }
  | .acked, true => s.setWarn (s.warn.setEntry n e)
  | .acked, false => s.setWarn (s.warn.setEntry n { e with state := .quiet })

/-- Whether a change of condition is an edge of a trigger; an unknown last condition gives none (R91). -/
def isEdgeOf (t : Trigger) (last : Option Bool) (cond : Bool) : Bool :=
  match t, last, cond with
  | .edgeRise, some false, true => true
  | .edgeFall, some true, false => true
  | .edgeAny, some false, true => true
  | .edgeAny, some true, false => true
  | _, _, _ => false

/-- The edge timer's step of an edge entry without a chime entry: QUIET at 20 (R92). -/
def Warning.edgeStep (e : Warning) : Warning :=
  if 20 ≤ e.edgeTimer + 1 then { e with state := .quiet, edgeTimer := 20 }
  else { e with edgeTimer := e.edgeTimer + 1 }

/-- An edge entry with its gate met (R91, R92); `e` already carries the new last condition, `last` the old one. -/
def State.evalEdge (s : State) (n : Nat) (e : Warning) (last : Option Bool) (cond : Bool) : State :=
  match e.state with
  | .quiet =>
    if isEdgeOf e.cfg.trigger last cond then s.raiseWarning n e else s.setWarn (s.warn.setEntry n e)
  | .pending => s.setWarn (s.warn.setEntry n e)
  | .active => s.setWarn (s.warn.setEntry n (if s.chime.holds n then e else e.edgeStep))
  | .acked => s.setWarn (s.warn.setEntry n (if s.chime.holds n then e else e.edgeStep))

/-- One entry at an evaluation (R87): an entry whose gate is not met is forced to QUIET; else its trigger's rules move
it. The last condition takes the combined condition in every case. -/
def State.evalEntry (s : State) (n : Nat) (e : Warning) (cond : Bool) : State :=
  let e' := { e with last := some cond }
  if gateMet e.cfg.gate s.pw.state then
    if e.cfg.isEdge then s.evalEdge n e' e.last cond else s.evalLevel n e' cond
  else if e.state = .quiet then s.setWarn (s.warn.setEntry n e')
  else s.storeAndSilence n { e' with state := .quiet, count := 0, edgeTimer := 0 }

/-- The position `n` at an evaluation whose terms are read from `at0` (R83). -/
def State.evalPosition (at0 : State) (call : Bool) (s : State) (n : Nat) : State :=
  match s.warn.entry n with
  | none => s
  | some e => s.evalEntry n e (combined at0 at0.warn call e.cfg)

/-! ## An evaluation (R87) -/

/-- The inputs whose active level is LOW, as a mask over SI15–SI0. -/
def lowActiveMask (cfg : List SenseCfg) : Nat := cfg.foldr (fun c n => n * 2 + (!c.activeHigh).toNat) 0

/-- The pin terms of a sample: true where an input is at its active level (R79). -/
def sampleTerms (cfg : List SenseCfg) (levels : BitVec 16) : BitVec 16 :=
  levels ^^^ BitVec.ofNat 16 (lowActiveMask cfg)

/-- The Warning Unit after the first parts of an evaluation: the sample, the latches, call-pending (R79, R84, R86). -/
def State.sampleWarnings (s : State) (levels : BitVec 16) : State :=
  s.setWarn { s.warn with
    pinTerms := sampleTerms s.warn.sense levels
    fuelLow := fuelLowNext s.cal s.trip s.warn.fuelLow
    coolantHot := coolantHotNext s.cal s.sig s.warn.coolantHot
    overspeed := overspeedNext s.pw.overspeed s.acc.speed s.sig s.warn.overspeed
    callPending := false }

/-- One evaluation: the sample, the latches, call-pending, and then every in-use entry in ascending order of number,
all reading the same term values (R83, R87). -/
def State.evaluate (s : State) (levels : BitVec 16) : State :=
  let call := s.warn.callPending
  let s1 := s.sampleWarnings levels
  (List.range 32).foldl (State.evalPosition s1 call) s1

/-! ## Acknowledgement, marks, lamp test, SLEEP -/

/-- An acknowledgement of an ACTIVE entry: a LEVEL entry goes to ACKED, an edge entry to QUIET, and its chime entry is
removed (R93, R95). -/
def State.acknowledgeEntry (s : State) (n : Nat) (e : Warning) : State :=
  s.storeAndSilence n { e with state := if e.cfg.isEdge then .quiet else .acked }

/-- An entry with its mark cleared if the expiry time has come (R96). -/
def Warning.expireMark (e : Warning) (now : Nat) : Warning :=
  match e.mark with
  | some t => if t ≤ now then { e with mark := none } else e
  | none => e

/-- Marks at a 1 s tick (R96). -/
def WarnUnit.expireMarks (w : WarnUnit) (now : Nat) : WarnUnit :=
  { w with table := w.table.map (fun e => e.map (fun x => x.expireMark now)) }

/-- A lamp test starts; a running one takes the new end time (R100). -/
def State.startLampTest (s : State) : State := s.setWarn { s.warn with lampTest := some (s.pw.time + 3000) }

/-- The lamp test at a 1 s tick: it ends at the first tick at or after its end time (R100). -/
def WarnUnit.endLampTest (w : WarnUnit) (now : Nat) : WarnUnit :=
  match w.lampTest with
  | some t => if t ≤ now then { w with lampTest := none } else w
  | none => w

/-- An entry with the runtime fields of R82 at their reset values. -/
def Warning.cleared (cfg : WarnCfg) : Warning :=
  { cfg := cfg, state := .quiet, count := 0, last := none, mark := none, raise := none, edgeTimer := 0 }

/-- The Warning Unit at entry to SLEEP (R84, R86, R87, R100). -/
def WarnUnit.sleep (w : WarnUnit) : WarnUnit :=
  { w with table := w.table.map (fun e => e.map (fun x => Warning.cleared x.cfg)), fuelLow := false,
           coolantHot := false, overspeed := false, callPending := false, lampTest := none }

end Sys2Proof.Machine
end

