-- ==== Sys2Proof/Machine/ServiceOps.lean ====
section
/-! DEFINITION. The Service Unit: used measures (R119), due states (R120), evaluation events (R121), and the engine-hour
counter (R117, R118). -/

namespace Sys2Proof.Machine

/-! ## Measures and states -/

/-- The km used since an item's baseline (R119); a value below 0 is taken as 0. -/
def kmUsed (i : ServiceItem) (odo : Nat) : Nat := odo / 10 - i.odoBase / 10

/-- The days used since an item's baseline. -/
def daysUsed (i : ServiceItem) (day : Nat) : Nat := day - i.dayBase

/-- The hours used since an item's baseline; `hours` in tenths. -/
def hoursUsed (i : ServiceItem) (hours : Nat) : Nat := hours / 10 - i.hoursBase

/-- The state a measure gives; a measure whose interval is 0 is off (R115, R120). -/
def measureState (interval margin used : Nat) : ServiceState :=
  if interval = 0 then .ok
  else if interval + interval / 10 ≤ used then .overdue
  else if interval ≤ used then .due
  else if interval - margin ≤ used then .soon
  else .ok

/-- The rank of a state, OVERDUE the worst. -/
def ServiceState.rank (x : ServiceState) : Nat :=
  match x with
  | .ok => 0
  | .soon => 1
  | .due => 2
  | .overdue => 3

/-- The worse of two states. -/
def worseState (x y : ServiceState) : ServiceState := if x.rank < y.rank then y else x

/-- The state of an item from its measures: the worst any of them gives (R120). -/
def itemState (i : ServiceItem) (odo day hours : Nat) : ServiceState :=
  worseState (worseState (measureState i.cfg.kmInterval i.cfg.kmMargin (kmUsed i odo))
      (measureState i.cfg.daysInterval i.cfg.daysMargin (daysUsed i day)))
    (measureState i.cfg.hoursInterval i.cfg.hoursMargin (hoursUsed i hours))

/-- An item evaluated (R121). -/
def ServiceItem.evaluate (i : ServiceItem) (odo day hours : Nat) : ServiceItem :=
  { i with state := itemState i odo day hours }

/-- Every item evaluated from the odometer, the day counter and the engine hours as they stand (R119, R121). -/
def State.evaluateItems (s : State) : State :=
  s.setService { s.service with
    items := s.service.items.map (fun i => i.evaluate s.acc.odo s.readout.day s.service.hours) }

/-- One item given new baselines and evaluated (R124, R126). -/
def State.rebaseItem (s : State) (n odoBase dayBase hoursBase : Nat) : State :=
  s.setService { s.service with
    items := updateAt s.service.items n (fun i =>
      ({ i with odoBase := odoBase, dayBase := dayBase, hoursBase := hoursBase }).evaluate
        s.acc.odo s.readout.day s.service.hours) }

/-- The whole engine hours (R118). -/
def Service.wholeHours (v : Service) : Nat := v.hours / 10

/-! ## The engine-hour counter -/

/-- Whether a 1 s tick counts a running second (R117). -/
def engineRunning (s : State) : Bool :=
  dispatcherRuns s.pw.state && s.sig.engineHdr.fresh == .fresh && decide (400 ≤ s.sig.engine.speed)

/-- A whole-hour step: all items are evaluated and a COUNTERS write is queued (R118). -/
def State.hourStep (s : State) : State := s.evaluateItems.requestCounters

/-- The seconds count has reached 360: it is set to 0 and the engine hours increase by one tenth, or stay saturated at
999,999 (R117); a change of the whole hours is a whole-hour step (R118). -/
def State.tenthStep (s : State) : State :=
  if s.service.hours < 999999 then
    let whole := s.service.wholeHours
    let s := s.setService { s.service with seconds := 0, hours := s.service.hours + 1 }
    if s.service.wholeHours ≠ whole then s.hourStep else s
  else s.setService { s.service with seconds := 0 }

/-- The engine-hour counter's share of a 1 s tick (R117). -/
def State.engineSecond (s : State) : State :=
  if engineRunning s then
    if 360 ≤ s.service.seconds + 1 then s.tenthStep
    else s.setService { s.service with seconds := s.service.seconds + 1 }
  else s

end Sys2Proof.Machine
end

