-- ==== Sys2Proof/Machine/AccumOps.lean ====
section
/-! DEFINITION. The Distance and Fuel Accumulator: deltas and rebases (R19, R20), metres and millilitres (R21, R22), the
sample ring and speed (R23, R24), the odometer (R25), announcements and adoption (R30 to R33). -/

namespace Sys2Proof.Machine

/-! ## Announcements and adoption -/

/-- The data of an ODO ANNOUNCE frame (R30). -/
def announceData (a : Accum) : List Byte :=
  [byteOf a.odo 2, byteOf a.odo 1, byteOf a.odo 0, if a.odoUnknown then 0x80#8 else 0#8]

/-- Queues an ODO ANNOUNCE frame of the odometer and flag as they stand (R30). -/
def State.announce (s : State) : State := s.sendFrame kindOdoAnnounce none (announceData s.acc)

/-- The largest odometer (R18). -/
def maxOdo : Nat := 9999999

/-- An adoption: the odometer takes a value, odometer-unknown clears with its timer and condition, the items are
evaluated if the whole-kilometre part changes (R121), and a slot write and an announcement follow (R31). -/
def State.adopt (s : State) (value : Nat) : State :=
  let km := s.acc.odo / 10
  let s := s.setAcc { s.acc with
    odo := value
    unknownCond := if s.acc.odoUnknown then false else s.acc.unknownCond
    unknownTimer := if s.acc.odoUnknown then none else s.acc.unknownTimer
    odoUnknown := false }
  let s := if s.acc.odo / 10 ≠ km then s.evaluateItems else s
  s.requestOdometer.announce

/-- A peer value more than 500 tenths above own: it is recorded as a disagreement (R32). -/
def State.disagreement (s : State) : State :=
  (s.setAcc { s.acc with disagree := true }).setTally
    { s.tally with odometerDisagree := bump8 s.tally.odometerDisagree }

/-- A peer value that is not flagged unknown (R31). -/
def State.peerOdometer (s : State) (peer : Nat) : State :=
  let value := min peer maxOdo
  if s.acc.odoUnknown then s.adopt (max s.acc.odo value)
  else if value ≤ s.acc.odo then s
  else if value ≤ s.acc.odo + 500 then s.adopt value
  else s.disagreement

/-- The unknown timer's step at a 1 s tick: at 30 odometer-unknown clears, the timer stops, and a slot write and an
announcement follow; the unknown condition is kept (R33). -/
def State.unknownSecond (s : State) : State :=
  match s.acc.unknownTimer with
  | none => s
  | some t =>
    if 30 ≤ t + 1 then
      (s.setAcc { s.acc with unknownTimer := none, odoUnknown := false }).requestOdometer.announce
    else s.setAcc { s.acc with unknownTimer := some (t + 1) }

/-! ## The odometer (R25) -/

/-- The accumulator after whole metres are added to the metre count, with its carries into the odometer. -/
def Accum.countMetres (a : Accum) (m : Nat) : Accum :=
  { a with metres := (a.metres + m) % 100, odo := min (a.odo + (a.metres + m) / 100) maxOdo }

/-- Odometer counting with its boundary checks: a new whole kilometre requests a slot write and evaluates the service
items (R121), a new ten kilometres queues an announcement (R25). -/
def State.countOdometer (s : State) (m : Nat) : State :=
  let before := s.acc.odo
  let s := s.setAcc (s.acc.countMetres m)
  let s := if s.acc.odo / 10 ≠ before / 10 then s.requestOdometer.evaluateItems else s
  if s.acc.odo / 100 ≠ before / 100 then s.announce else s

/-! ## Counter deltas -/

/-- The largest change of a count taken as travel or flow (R19). -/
def maxDelta : Nat := 1023

/-- A filling-slot sum after an addition; it stops at 65,535 (R20). -/
def fillAdd (sum d : Nat) : Nat := min (sum + d) 65535

/-- An accepted distance delta (R20, R21). -/
def State.distanceDelta (s : State) (d : Nat) : State :=
  let total := s.acc.distRes + d * 1000
  let m := total / s.cal.kDist
  let s := s.setAcc { s.acc with fillDist := fillAdd s.acc.fillDist d, distRes := total % s.cal.kDist }
  if m = 0 then s else (s.setTrip (s.trip.addMetres m)).countOdometer m

/-- An accepted fuel delta (R20, R22). -/
def State.fuelDelta (s : State) (d : Nat) : State :=
  let total := s.acc.fuelRes + d * 1000
  let ml := total / s.cal.kFuel
  let s := s.setAcc { s.acc with fillFuel := fillAdd s.acc.fillFuel d, fuelRes := total % s.cal.kFuel }
  if ml = 0 then s else s.setTrip (s.trip.addMillilitres ml)

/-- The result of a new count: a delta, or a rebase, counted as a gap or not (R19). -/
inductive CountResult where
  | delta (d : Nat)
  | rebase
  | gap
deriving DecidableEq, Repr

/-- What a new count gives against its baseline (R19). -/
def countResult (baseline : Option Word) (count : Word) (rebound : Bool) : CountResult :=
  if rebound then .rebase else
  match baseline with
  | none => .rebase
  | some b => if (count - b).toNat ≤ maxDelta then .delta (count - b).toNat else .gap

/-- An update of the distance count (R19). -/
def State.distanceCount (s : State) (count : Word) (rebound : Bool) : State :=
  let r := countResult s.acc.distBase count rebound
  let s := s.setAcc { s.acc with distBase := some count }
  match r with
  | .delta d => s.distanceDelta d
  | .rebase => s
  | .gap => s.setTally { s.tally with distanceGaps := bump16 s.tally.distanceGaps }

/-- An update of the fuel count (R19). -/
def State.fuelCount (s : State) (count : Word) (rebound : Bool) : State :=
  let r := countResult s.acc.fuelBase count rebound
  let s := s.setAcc { s.acc with fuelBase := some count }
  match r with
  | .delta d => s.fuelDelta d
  | .rebase => s
  | .gap => s.setTally { s.tally with fuelGaps := bump16 s.tally.fuelGaps }

/-! ## The sample ring and speed -/

/-- Speed from the newest five closed slots, in tenths of km/h (R24). -/
def speedOf (kDist : Nat) (ring : List Slot) : Nat := min 2999 (slotDist (ring.take 5) * 72000 / kDist)

/-- The accumulator at a trip tick: the filling slot is closed, a new one starts, and speed is computed (R23, R24). -/
def Accum.closeSlot (a : Accum) (kDist : Nat) : Accum :=
  let ring := ({ dist := a.fillDist, fuel := a.fillFuel } :: a.ring).take 20
  { a with ring := ring, fillDist := 0, fillFuel := 0, speed := speedOf kDist ring }

/-- The accumulator at wake: the ring emptied, the filling slot cleared, speed computed (R23, R24). -/
def Accum.wake (a : Accum) (kDist : Nat) : Accum :=
  { a with ring := [], fillDist := 0, fillFuel := 0, speed := speedOf kDist [] }

end Sys2Proof.Machine
end

