-- ==== Sys2Proof/Machine/ReadoutOps.lean ====
section
/-! DEFINITION. The Readout Driver: the text table (R132), the pages and their figures (R133 to R136), the odometer readout
(R137), composition (R130, R131), the clock and the day counter (R140 to R142), and the rotation (R135). -/

namespace Sys2Proof.Machine

/-! ## Texts (R132) -/

/-- The first twenty texts. -/
def textsLow : List Text :=
  ["CHECK CAL".toList, "OIL PRESS".toList, "ENGINE HOT".toList, "CHARGING".toList, "FUEL LOW".toList,
   "SPEED".toList, "KEY IN".toList, "ODOMETER".toList, "CALL".toList, "OIL SERV".toList,
   "AIR FILTER".toList, "BRAKE FLD".toList, "PLUGS".toList, "COOLANT".toList, "INSPECTION".toList,
   "CHECK ENG".toList, "PARK BRAKE".toList, "BRAKE PADS".toList, "DOOR OPEN".toList, "DRIVER DR".toList]

/-- The last twenty texts. -/
def textsHigh : List Text :=
  ["PASS DOOR".toList, "REAR LEFT".toList, "REAR RIGHT".toList, "PARTITION".toList, "LIGHTS ON".toList,
   "BULB OUT".toList, "FASTEN BLT".toList, "FUEL SENDR".toList, "LINE FAULT".toList, "STATION".toList,
   "UNSTEADY".toList, "CLASH".toList, "SET CLOCK".toList, "SERVICE".toList, "SERV SOON".toList,
   "SERV DUE".toList, "TYRES".toList, "WASHER".toList, "ICE".toList, "WARNING".toList]

/-- The fixed table of 40 texts, numbered from 0. -/
def textTable : List Text := textsLow ++ textsHigh

/-- A text as the message readout shows it: from character 1, with blanks after it to fill the ten. -/
def shownText (n : Nat) : Text := padRight 10 (textTable.getD n [])

/-! ## Pages (R133) -/

/-- A role's list of pages. -/
def pageList (r : Role) : List Page :=
  match r with
  | .front => [.clock, .range, .avgEconomy, .currentEconomy, .avgSpeed, .elapsed, .fuelUsed, .lastTrip, .service,
               .outsideTemp]
  | .rear => [.clock, .range, .avgSpeed, .elapsed, .lastTrip, .outsideTemp]

/-- The page after `p` in a cyclic list; `first` follows the last. -/
def pageAfter (first p : Page) (l : List Page) : Page :=
  match l with
  | [] => first
  | [_] => first
  | x :: y :: rest => if x = p then y else pageAfter first p (y :: rest)

/-- The next page of a role's list. -/
def nextPage (r : Role) (p : Page) : Page := pageAfter .clock p (pageList r)

/-- The previous page of a role's list. -/
def previousPage (r : Role) (p : Page) : Page := pageAfter .outsideTemp p (pageList r).reverse

/-- AVG ECONOMY, AVG SPEED, ELAPSED and FUEL USED are the trip pages. -/
def Page.isTrip (p : Page) : Bool := p == .avgEconomy || p == .avgSpeed || p == .elapsed || p == .fuelUsed

/-- The current page becomes another; when it becomes LAST TRIP the rotation starts anew (R135). -/
def Readout.turnTo (r : Readout) (p : Page) : Readout :=
  if p = .lastTrip then { r with page := p, rotPos := .distance, rotCount := 0 } else { r with page := p }

/-- The trip selection moves to the other trip, and the rotation starts anew (R135, R139). -/
def Readout.otherTrip (r : Readout) : Readout :=
  { r with tripSel := if r.tripSel = .a then .b else .a, rotPos := .distance, rotCount := 0 }

/-- The odometer selection moves on (R137). -/
def nextOdoSel (x : OdoSel) : OdoSel :=
  match x with
  | .odometer => .tripA
  | .tripA => .tripB
  | .tripB => .odometer

/-! ## Rotation (R135) -/

/-- The figure after a figure of the LAST TRIP page. -/
def nextRotation (x : Rotation) : Rotation :=
  match x with
  | .distance => .economy
  | .economy => .speed
  | .speed => .time
  | .time => .distance

/-- A trip tick at the rotation. R131 says that the position and the count are not changed while a text covers the page, R135
that the count advances while a text covers it: the model follows R135 (DEDUCED, log 35). -/
def Readout.rotate (r : Readout) : Readout :=
  if r.page = .lastTrip then
    if 20 ≤ r.rotCount + 1 then { r with rotCount := 0, rotPos := nextRotation r.rotPos }
    else { r with rotCount := r.rotCount + 1 }
  else r

/-! ## The figure of a page (R134) -/

/-- The dashes of an unavailable figure. -/
def dashes : Text := ['-', '-', '-']

/-- A figure in tenths; one that needs more than five characters is shown without its tenths, rounded down. -/
def tenthsFigure (n : Nat) : Text := if 5 < (showTenths n).length then showNat (n / 10) else showTenths n

/-- A figure in tenths, or dashes. -/
def tenthsOrDashes (n : Option Nat) : Text :=
  match n with
  | none => dashes
  | some x => tenthsFigure x

/-- The three fields of a page: label in characters 1 to 3, figure right-justified in 4 to 8, unit in 9 and 10. -/
def pageFields (label figure unit : Text) : Text := padRight 3 label ++ padLeft 5 figure ++ padRight 2 unit

/-- The metric unit, or the one of US and IMPERIAL. -/
def unitText (u : Units) (metric other : Text) : Text := if u = .metric then metric else other

/-- The letter of a trip. -/
def tripLetter (t : TripSel) : Char := if t = .a then 'A' else 'B'

/-- The record a trip selection names. -/
def Trip.record (t : Trip) (sel : TripSel) : TripRecord := if sel = .a then t.a else t.b

/-- The last-trip snapshot of the record a trip selection names. -/
def Trip.snapshot (t : Trip) (sel : TripSel) : TripRecord := if sel = .a then t.snapA else t.snapB

/-- Elapsed time as h:mm. -/
def elapsedText (r : TripRecord) : Text := showNat (elapsedHours r) ++ ':' :: showTwo (elapsedMinutes r)

/-- The clock's figure: hour without a leading zero, colon, two digits of minute (R140). -/
def clockFigure (twelve : Bool) (h m : Nat) : Text :=
  showNat (if twelve then (if h % 12 = 0 then 12 else h % 12) else h) ++ ':' :: showTwo m

/-- The CLOCK page (R140). -/
def clockPage (s : State) : Text :=
  pageFields [] (clockFigure s.pw.clock12 s.readout.hour s.readout.minute)
    (if s.pw.clock12 then (if s.readout.hour < 12 then ['A', 'M'] else ['P', 'M']) else [])

/-- The RANGE figure (R48, R49). -/
def rangeFigure (s : State) : Text :=
  match rangeKm s.cal s.trip with
  | none => dashes
  | some km => if km < 50 then ['L', 'O', 'W'] else showNat (inUnits s.pw.units km)

/-- The average speed figure, converted after its clamp (R53, R55). -/
def speedFigure (u : Units) (r : TripRecord) : Text := tenthsOrDashes ((averageSpeed r).map (inUnits u))

/-- The OUTSIDE TEMP figure: dashes while the BODY entry is NONE or LOST (R134). DESIGN CHOICE (log 36): R134 shows it 'signed'
and does not say whether a plus sign is shown; the model shows a minus sign alone. -/
def outsideFigure (s : State) : Text :=
  if s.sig.bodyHdr.fresh.held then showInt (temperature s.pw.units s.sig.body.outside) else dashes

/-- The LAST TRIP page (R135). -/
def lastTripPage (s : State) : Text :=
  let u := s.pw.units
  let r := s.trip.snapshot s.readout.tripSel
  let t := tripLetter s.readout.tripSel
  match s.readout.rotPos with
  | .distance => pageFields [t, 'L', 'D'] (tenthsFigure (tripDistance u r)) (unitText u ['K', 'M'] ['M', 'I'])
  | .economy => pageFields [t, 'L', 'E'] (tenthsOrDashes (averageEconomy u r)) (unitText u ['L', 'K'] ['M', 'G'])
  | .speed => pageFields [t, 'L', 'S'] (speedFigure u r) (unitText u ['K', 'H'] ['M', 'H'])
  | .time => pageFields [t, 'L', 'T'] (elapsedText r) []

/-! ## The SERVICE page (R136) -/

/-- A measure of a service item. -/
inductive Measure where
  | km | days | hours
deriving DecidableEq, Repr

/-- Whether a measure is enabled and gives a state. -/
def measureGives (s : State) (i : ServiceItem) (m : Measure) : Bool :=
  match m with
  | .km => i.cfg.kmInterval != 0 && measureState i.cfg.kmInterval i.cfg.kmMargin (kmUsed i s.acc.odo) == i.state
  | .days =>
    i.cfg.daysInterval != 0 && measureState i.cfg.daysInterval i.cfg.daysMargin (daysUsed i s.readout.day) == i.state
  | .hours =>
    i.cfg.hoursInterval != 0 &&
      measureState i.cfg.hoursInterval i.cfg.hoursMargin (hoursUsed i s.service.hours) == i.state

/-- What remains of a measure, below 0 once the interval has been passed. -/
def measureRemaining (s : State) (i : ServiceItem) (m : Measure) : Int :=
  match m with
  | .km => (i.cfg.kmInterval : Int) - kmUsed i s.acc.odo
  | .days => (i.cfg.daysInterval : Int) - daysUsed i s.readout.day
  | .hours => (i.cfg.hoursInterval : Int) - hoursUsed i s.service.hours

/-- A signed distance in the unit system, rounded down. -/
def signedInUnits (u : Units) (n : Int) : Int := if u = .metric then n else Int.fdiv (n * 62137) 100000

/-- The figure of a remaining value: clamped to −9,999 to 99,999, a distance converted after its clamp (R55, R136). -/
def remainingFigure (s : State) (i : ServiceItem) (m : Measure) : Text :=
  let v := clampInt (-9999) 99999 (measureRemaining s i m)
  match m with
  | .km => showInt (signedInUnits s.pw.units v)
  | .days => showInt v
  | .hours => showInt v

/-- The unit of a remaining value. -/
def remainingUnit (u : Units) (m : Measure) : Text :=
  match m with
  | .km => unitText u ['K', 'M'] ['M', 'I']
  | .days => ['D', 'Y']
  | .hours => ['H', 'R']

/-- The worst state of the items. -/
def worstItemState (items : List ServiceItem) : ServiceState := items.foldl (fun w i => worseState w i.state) .ok

/-- The first item in a state, with its number. -/
def firstInState (st : ServiceState) (items : List ServiceItem) (n : Nat) : Option (Nat × ServiceItem) :=
  match items with
  | [] => none
  | i :: rest => if i.state = st then some (n, i) else firstInState st rest (n + 1)

/-- The SERVICE page. -/
def servicePage (s : State) : Text :=
  let worst := worstItemState s.service.items
  if worst = .ok then "SERVICE OK".toList else
  match firstInState worst s.service.items 0 with
  | none => "SERVICE OK".toList
  | some (n, i) =>
    match [Measure.km, .days, .hours].find? (measureGives s i) with
    | none => pageFields ['S', 'V', digitChar n] dashes []
    | some m => pageFields ['S', 'V', digitChar n] (remainingFigure s i m) (remainingUnit s.pw.units m)

/-! ## The message readout -/

/-- The text of a page, formed from the state as it stands (R50, R134). -/
def pageText (s : State) (p : Page) : Text :=
  let u := s.pw.units
  let r := s.trip.record s.readout.tripSel
  let t := tripLetter s.readout.tripSel
  match p with
  | .clock => clockPage s
  | .range => pageFields ['R', 'N', 'G'] (rangeFigure s) (unitText u ['K', 'M'] ['M', 'I'])
  | .avgEconomy => pageFields [t, 'E', 'C'] (tenthsOrDashes (averageEconomy u r)) (unitText u ['L', 'K'] ['M', 'G'])
  | .currentEconomy =>
    pageFields ['C', 'U', 'R'] (tenthsOrDashes (currentEconomy s.cal u s.acc)) (unitText u ['L', 'K'] ['M', 'G'])
  | .avgSpeed => pageFields [t, 'S', 'P'] (speedFigure u r) (unitText u ['K', 'H'] ['M', 'H'])
  | .elapsed => pageFields [t, 'E', 'T'] (elapsedText r) []
  | .fuelUsed => pageFields [t, 'F', 'U'] (tenthsFigure (fuelUsed u r)) (unitText u ['L', 'T'] ['G', 'L'])
  | .lastTrip => lastTripPage s
  | .service => servicePage s
  | .outsideTemp => pageFields ['O', 'U', 'T'] (outsideFigure s) (unitText u ['C'] ['F'])

/-- What the message readout shows in ACTIVE and CRANK: the foremost warning's text, or else the current page (R131). -/
def messageText (s : State) : Text :=
  match (foremost s).bind s.warn.entry with
  | some e => shownText e.cfg.text
  | none => pageText s s.readout.page

/-! ## The odometer readout (R137) -/

/-- A number of tenths, right-justified in the seven digits. -/
def odoDigits (n : Nat) : Text := padLeft 7 (showNat (n / 10) ++ [digitChar n])

/-- A blank odometer readout. -/
def blankOdo : OdoReadout := { digits := List.replicate 7 ' ', point := false, sign := .none }

/-- What the odometer readout shows in ACTIVE and CRANK. -/
def odoText (s : State) : OdoReadout :=
  let u := s.pw.units
  match s.readout.odoSel with
  | .odometer =>
    if s.acc.odoUnknown then { digits := List.replicate 7 '-', point := false, sign := .none }
    else { digits := odoDigits (inUnits u s.acc.odo), point := true, sign := .none }
  | .tripA => { digits := odoDigits (tripDistance u s.trip.a), point := true, sign := .a }
  | .tripB => { digits := odoDigits (tripDistance u s.trip.b), point := true, sign := .b }

/-! ## Composition (R130) -/

/-- Both readouts composed from the state as it stands. -/
def State.compose (s : State) : State :=
  match s.pw.state with
  | .active => s.setReadout { s.readout with message := messageText s, odoShown := odoText s, brightness := .full }
  | .crank => s.setReadout { s.readout with message := messageText s, odoShown := odoText s, brightness := .full }
  | .standby => s.setReadout { s.readout with message := clockPage s, odoShown := blankOdo, brightness := .dimmed }
  | _ => s.setReadout { s.readout with message := List.replicate 10 ' ', odoShown := blankOdo, brightness := .dark }

/-- Whether a warning text covers the message readout at this moment: it holds one of the texts of the table (R130, R131,
R139; log 18). No page shows one of them. -/
def textCovers (s : State) : Bool := textTable.any (fun t => padRight 10 t == s.readout.message)

/-! ## The clock and the day counter (R140 to R142) -/

/-- The largest day counter (R129). -/
def maxDay : Nat := 65535

/-- What follows a raise of the day counter: a COUNTERS write and an evaluation of the service items (R140). -/
def State.dayFollows (s : State) : State := s.requestCounters.evaluateItems

/-- Midnight: the day counter is increased by one with its day step, or stays at 65,535 with none (R140). -/
def State.dayStep (s : State) : State :=
  if s.readout.day < maxDay then (s.setReadout { s.readout with day := s.readout.day + 1 }).dayFollows else s

/-- The data of a CLOCK frame (R142). -/
def clockData (r : Readout) : List Byte :=
  [byteOf r.hour 0, byteOf r.minute 0, byteOf r.second 0, byteOf r.day 1, byteOf r.day 0]

/-- Queues a CLOCK frame, at the FRONT cluster alone, while the clock has been set and the state allows (R142). -/
def State.sendClock (s : State) : State :=
  if s.pw.role = .front ∧ s.readout.unset = false ∧ dispatcherRuns s.pw.state = true then
    s.sendFrame kindClock none (clockData s.readout)
  else s

/-- The hour passes on; from 23 to 0 with midnight (R140). -/
def State.clockHour (s : State) : State :=
  if s.readout.hour < 23 then s.setReadout { s.readout with hour := s.readout.hour + 1 }
  else (s.setReadout { s.readout with hour := 0 }).dayStep

/-- The minute passes on; from 59 to 0 with the hour (R140). -/
def State.clockMinute (s : State) : State :=
  if s.readout.minute < 59 then s.setReadout { s.readout with minute := s.readout.minute + 1 }
  else (s.setReadout { s.readout with minute := 0 }).clockHour

/-- The clock's share of a 1 s tick, with the CLOCK frame of a minute change (R140, R142). -/
def State.clockSecond (s : State) : State :=
  if s.readout.second < 59 then s.setReadout { s.readout with second := s.readout.second + 1 }
  else ((s.setReadout { s.readout with second := 0 }).clockMinute).sendClock

end Sys2Proof.Machine
end

