-- ==== Sys2Proof/Machine/PeerOps.lean ====
section
/-! DEFINITION. The Signal Table's entries (R5 to R15) and the Peer Supervisor: the sequence (R159), heartbeats (R160, R168,
R169), outcomes and station states (R161 to R164), and the snapshot (R166). -/

namespace Sys2Proof.Machine

/-! ## Signal frames (R5, R6) -/

/-- The required length of a signal kind. -/
def requiredLength (k : SignalKind) : Nat :=
  match k with
  | .engine => 6
  | .chassis => 3
  | .body => 4
  | .fuelLevel => 2

/-- A byte less 40, clamped from above. -/
def celsius (b : Byte) (hi : Int) : Int := min hi ((b.toNat : Int) - 40)

/-- The ENGINE fields of a frame. -/
def engineOf (f : Frame) : EngineFields :=
  { speed := (f.byte 1).toNat * 32, coolant := celsius (f.byte 2) 150, oil := (f.byte 3).toNat * 4,
    fuelCount := f.word 4, chargeFault := bitAt (f.byte 6) 7, checkEngine := bitAt (f.byte 6) 6,
    oilSwitch := bitAt (f.byte 6) 5 }

/-- The CHASSIS fields of a frame. -/
def chassisOf (f : Frame) : ChassisFields :=
  { distCount := f.word 1, fluidLow := bitAt (f.byte 3) 7, parkingBrake := bitAt (f.byte 3) 6,
    padWear := bitAt (f.byte 3) 5 }

/-- The BODY fields of a frame. -/
def bodyOf (f : Frame) : BodyFields :=
  { door1 := bitAt (f.byte 1) 7, door2 := bitAt (f.byte 1) 6, door3 := bitAt (f.byte 1) 5,
    door4 := bitAt (f.byte 1) 4, partition := bitAt (f.byte 1) 3, headlamp := bitAt (f.byte 1) 2,
    bulbOut := bitAt (f.byte 1) 1, keyIn := bitAt (f.byte 1) 0, beltOpen := bitAt (f.byte 2) 7,
    battery := (f.byte 3).toNat, outside := celsius (f.byte 4) 60 }

/-- The FUEL LEVEL fields of a frame: with the sender fault bit set the sender value is left as it was (R12). -/
def fuelOf (old : FuelFields) (f : Frame) : FuelFields :=
  if bitAt (f.byte 2) 7 then { old with senderFault := true }
  else { sender := (f.byte 1).toNat, senderFault := false }

/-- The Signal Table with the fields of one entry taken from a frame. -/
def Signals.takeFields (t : Signals) (k : SignalKind) (f : Frame) : Signals :=
  match k with
  | .engine => { t with engine := engineOf f }
  | .chassis => { t with chassis := chassisOf f }
  | .body => { t with body := bodyOf f }
  | .fuelLevel => { t with fuel := fuelOf t.fuel f }

/-- What the Signal Table makes of a signal frame (R5, R7 to R10). -/
inductive SignalVerdict where
  | discard
  | foreign
  | accept (rebound : Bool)
deriving DecidableEq, Repr

/-- The verdict on a signal frame: too short, from an ABSENT station, binding, foreign, or from the bound source. -/
def signalVerdict (h : SigHeader) (required : Nat) (absent : Bool) (f : Frame) : SignalVerdict :=
  if f.len < required then .discard
  else if absent then .discard
  else if !h.fresh.held then .accept true
  else if h.bound = some f.source then .accept false
  else .foreign

/-- The header of an entry that has accepted a frame. -/
def acceptedHeader (f : Stored) (rebound : Bool) : SigHeader :=
  { fresh := .fresh, bound := some f.frame.source, arrival := f.arrival, rebound := rebound }

/-- The hand-over of an accepted frame to the other blocks (R11, R12). -/
def State.handOver (s : State) (k : SignalKind) (f : Stored) (rebound : Bool) : State :=
  match k with
  | .engine => s.fuelCount (f.frame.word 4) rebound
  | .chassis => s.distanceCount (f.frame.word 1) rebound
  | .body => s
  | .fuelLevel =>
    if bitAt (f.frame.byte 2) 7 then s
    else s.setTrip (s.trip.senderValue s.pw.state (f.frame.byte 1).toNat)

/-- A signal frame at the Signal Table (R5 to R12). -/
def State.signalFrame (s : State) (k : SignalKind) (f : Stored) : State :=
  match signalVerdict (s.sig.hdr k) (requiredLength k) (s.peer.isAbsent f.frame.source) f.frame with
  | .discard => s
  | .foreign => s.setTally { s.tally with foreignFrames := bump16 s.tally.foreignFrames }
  | .accept rebound =>
    (s.setSig ((s.sig.takeFields k f.frame).setHdr k (acceptedHeader f rebound))).handOver k f rebound

/-! ## Ageing (R13) -/

/-- The max age of a kind in ms. -/
def maxAge (k : SignalKind) : Nat :=
  match k with
  | .engine => 500
  | .chassis => 500
  | .body => 1000
  | .fuelLevel => 2000

/-- The LOST age of a kind in ms: five times its max age. -/
def lostAge (k : SignalKind) : Nat := 5 * maxAge k

/-- The freshness of an entry after a trip tick. -/
def agedFreshness (k : SignalKind) (now : Freshness) (age : Nat) : Freshness :=
  if !now.held then now
  else if lostAge k ≤ age then .lost
  else if maxAge k < age then .stale
  else now

/-- One entry aged. -/
def Signals.age (t : Signals) (k : SignalKind) (now : Nat) : Signals :=
  let h := t.hdr k
  t.setHdr k { h with fresh := agedFreshness k h.fresh (ageOf now h.arrival) }

/-- Every entry aged at a trip tick. -/
def Signals.ageAll (t : Signals) (now : Nat) : Signals :=
  (((t.age .engine now).age .chassis now).age .body now).age .fuelLevel now

/-! ## LOST by the station or by a wake (R14, R15) -/

/-- FRESH or STALE becomes LOST. -/
def loseFreshness (f : Freshness) : Freshness := if f.held then .lost else f

/-- A header after its station was marked ABSENT. -/
def SigHeader.stationLost (h : SigHeader) (n : StationNo) : SigHeader :=
  if h.bound = some n then { h with fresh := loseFreshness h.fresh } else h

/-- Every entry bound to a station becomes LOST (R14). -/
def Signals.stationLost (t : Signals) (n : StationNo) : Signals :=
  { t with engineHdr := t.engineHdr.stationLost n, chassisHdr := t.chassisHdr.stationLost n,
           bodyHdr := t.bodyHdr.stationLost n, fuelHdr := t.fuelHdr.stationLost n }

/-- A header at wake. -/
def SigHeader.wake (h : SigHeader) : SigHeader := { h with fresh := loseFreshness h.fresh }

/-- Every entry at wake from SLEEP (R15). -/
def Signals.wake (t : Signals) : Signals :=
  { t with engineHdr := t.engineHdr.wake, chassisHdr := t.chassisHdr.wake, bodyHdr := t.bodyHdr.wake,
           fuelHdr := t.fuelHdr.wake }

/-! ## The sequence (R159) -/

/-- The next value of the 7-bit sequence: shifted left, bit 0 the exclusive-or of the old bits 6 and 5. -/
def nextSequence (v : BitVec 7) : BitVec 7 := (v <<< 1) ||| (((v >>> 6) ^^^ (v >>> 5)) &&& 1#7)

/-- The seed of a station: its number plus 1. -/
def sequenceSeed (station : StationNo) : BitVec 7 := BitVec.ofNat 7 (station.toNat + 1)

/-! ## A STATUS (R161, R162) -/

/-- The outcome of a value against the last one. -/
def statusOutcome (last v : BitVec 7) : Outcome3 :=
  if v = 0#7 ∨ last = 0#7 then .mismatch
  else if v = nextSequence last then .hit
  else if v = nextSequence (nextSequence last) then .miss
  else .mismatch

/-- The tallies with one outcome counted. -/
def StationTallies.count (t : StationTallies) (o : Outcome3) : StationTallies :=
  match o with
  | .hit => { t with hits := bump16 t.hits }
  | .miss => { t with misses := bump16 t.misses }
  | .mismatch => { t with mismatches := bump16 t.mismatches }

/-- The window with its newest member; of 17 the oldest is dropped. -/
def windowAdd (w : List Outcome3) (o : Outcome3) : List Outcome3 :=
  let w' := w ++ [o]
  if 16 < w'.length then w'.drop 1 else w'

/-- The mismatches in a window. -/
def windowMismatches (w : List Outcome3) : Nat := w.countP (fun o => o == .mismatch)

/-- The hit run's step in HUNT and SLIP: the second consecutive hit brings SYNC with the window emptied. -/
def Station.runStep (r : Station) (o : Outcome3) : Station :=
  if o = .hit then
    if 2 ≤ r.hitRun + 1 then { r with state := .sync, hitRun := 0, window := [] }
    else { r with hitRun := r.hitRun + 1 }
  else { r with hitRun := 0 }

/-- SYNC after an outcome has entered the window: SLIP at four mismatches. -/
def Station.syncStep (r : Station) : Station :=
  if 4 ≤ windowMismatches r.window then
    { r with state := .slip, hitRun := 0, tallies := { r.tallies with slips := bump8 r.tallies.slips } }
  else r

/-- The state change of an outcome (R162). -/
def Station.move (r : Station) (o : Outcome3) : Station :=
  match r.state with
  | .absent => r
  | .hunt => r.runStep o
  | .sync => ({ r with window := windowAdd r.window o }).syncStep
  | .slip => ({ r with window := windowAdd r.window o }).runStep o

/-- A record that takes a STATUS value from its station (R161, R162). -/
def Station.takeStatus (r : Station) (v : BitVec 7) (arrival : Nat) : Station :=
  let r := { r with lastTime := arrival }
  match r.state, r.last with
  | .absent, _ => { r with state := .hunt, last := some v, hitRun := 0, window := [], seen := true }
  | _, l =>
    let o := statusOutcome (l.getD 0#7) v
    ({ r with last := some v, tallies := r.tallies.count o }).move o

/-- The Peer Supervisor with one record changed. -/
def Peer.setStation (p : Peer) (n : StationNo) (f : Station → Station) : Peer :=
  { p with stations := updateAt p.stations n.toNat f }

/-- A STATUS frame at the Peer Supervisor (R161). -/
def State.statusFrame (s : State) (f : Stored) : State :=
  if f.frame.source = s.pw.station then s.setPeer { s.peer with clash := true }
  else if f.frame.len = 0 then s
  else s.setPeer (s.peer.setStation f.frame.source (fun r => r.takeStatus ((f.frame.byte 1).truncate 7) f.arrival))

/-! ## ABSENT (R163, R164) -/

/-- A record that becomes ABSENT. -/
def Station.goAbsent (r : Station) : Station := { r with state := .absent, last := none, hitRun := 0, window := [] }

/-- Whether a record has been silent for 1,000 ms or more. -/
def Station.silent (r : Station) (now : Nat) : Bool := r.state != .absent && decide (1000 ≤ ageOf now r.lastTime)

/-- A record marked ABSENT for silence, counted in ABSENT entries. -/
def Station.markAbsent (r : Station) : Station :=
  { r.goAbsent with tallies := { r.tallies with absents := bump8 r.tallies.absents } }

/-- A station marked ABSENT, with the Signal Table told (R163, R14). -/
def State.markAbsent (s : State) (n : StationNo) : State :=
  (s.setPeer (s.peer.setStation n Station.markAbsent)).setSig (s.sig.stationLost n)

/-- The silence check of one station at a trip tick at time `now`. -/
def State.checkStation (now : Nat) (s : State) (n : Nat) : State :=
  if (s.peer.station (BitVec.ofNat 4 n)).silent now then s.markAbsent (BitVec.ofNat 4 n) else s

/-- The silence check of every station at a trip tick (R163). -/
def State.checkStations (s : State) (now : Nat) : State := (List.range 16).foldl (State.checkStation now) s

/-- A record at wake (R164). -/
def Station.wake (r : Station) : Station := if r.state = .absent then r else r.goAbsent

/-! ## Heartbeats (R160, R168, R169) -/

/-- Bits 1–0 of a STATUS: the power state. -/
def powerCode (p : Power) : BitVec 2 :=
  match p with
  | .standby => 1#2
  | .active => 2#2
  | .crank => 3#2
  | _ => 0#2

/-- A single bit. -/
def bit1 (b : Bool) : BitVec 1 := if b then 1#1 else 0#1

/-- The data of an own STATUS carrying a value (R160). DESIGN CHOICE (log 39): R160 names no content for bits 5 to 2 of the second
byte; the model sends them as 0. -/
def statusData (s : State) (v : BitVec 7) : List Byte :=
  [0#1 ++ v, bit1 (s.pw.role == .rear) ++ bit1 s.peer.clash ++ 0#4 ++ powerCode s.pw.state]

/-- Whether the rate corrupts the next own STATUS (R168). -/
def rateCorrupts (p : Peer) : Bool := p.rate != 0 && decide (10 ^ p.rate ≤ p.count + 1)

/-- The insertion count after an own STATUS is requested (R168). -/
def nextCount (p : Peer) : Nat := if p.rate = 0 then p.count else if rateCorrupts p then 0 else p.count + 1

/-- The value the next own STATUS carries (R168, R169). -/
def statusValue (p : Peer) (v : BitVec 7) : BitVec 7 := if rateCorrupts p || p.once then v ^^^ 0x55#7 else v

/-- A heartbeat in STANDBY, ACTIVE or CRANK: an own STATUS is requested and the generator advances (R160). The generator
has had a value since LOAD (R159); without one nothing is sent. -/
def State.heartbeat (s : State) : State :=
  match s.peer.generator with
  | none => s
  | some v =>
    let data := statusData s (statusValue s.peer v)
    (s.setPeer { s.peer with generator := some (nextSequence v), count := nextCount s.peer, once := false }).sendFrame
      kindStatus none data

/-! ## The snapshot (R166) -/

/-- The indices of the stations seen, in ascending order, from number `n` on. -/
def seenIndices (rs : List Station) (n : Nat) : List Nat :=
  match rs with
  | [] => []
  | r :: rest => if r.seen then n :: seenIndices rest (n + 1) else seenIndices rest (n + 1)

/-- The parts of a report sequence: every seen station, then index 16. -/
def reportSequence (rs : List Station) : List (Nat × Nat) := (seenIndices rs 0 ++ [16]).flatMap reportParts

/-- The snapshot is taken, every live tally is set to 0, and the first part is queued (R166). -/
def State.takeSnapshot (s : State) : State :=
  let snap : Snapshot := { stations := s.peer.stations.map Station.tallies, own := s.tally }
  let s := s.setPeer { s.peer with
    snapshot := snap
    stations := s.peer.stations.map (fun r => { r with tallies := StationTallies.zero }) }
  sendReports (reportSequence s.peer.stations) (s.setTally OwnTallies.zero)

/-- A TALLY REQUEST frame at the Peer Supervisor (R166). -/
def State.tallyRequest (s : State) (f : Frame) : State :=
  if f.len = 0 then s
  else if f.target ≠ s.pw.station then s
  else if s.peer.report.isEmpty then s.takeSnapshot else s

end Sys2Proof.Machine
end

