-- ==== Sys2Proof/Machine/PowerOps.lean ====
section
/-! DEFINITION. The changes of power state and what each block does at them (R170, R172, R173), the wake (R15, R23, R64, R157,
R164), and the reset (R175). -/

namespace Sys2Proof.Machine

/-! ## Entries that more than one change shares -/

/-- The power state alone. -/
def State.setPower (s : State) (p : Power) : State := s.setPw { s.pw with state := p }

/-- The fast-fill timer set to a count (R41). -/
def State.setFastFill (s : State) (n : Nat) : State := s.setTrip { s.trip with fastFill := n }

/-- The tone generator leaves SILENT and passes to the head (R106, R110). -/
def State.awakenTone (s : State) : State := s.setChime (s.chime.awaken s.pw.time)

/-- The unknown timer starts at the first entry to ACTIVE after the reset while odometer-unknown is set (R33). -/
def State.startUnknownTimer (s : State) : State :=
  if s.acc.odoUnknown ∧ s.acc.unknownTimer = none then s.setAcc { s.acc with unknownTimer := some 0 } else s

/-- The change into CRANK: fast fill ends (R41), the tone falls silent (R110), the readouts are composed (R130). -/
def State.enterCrank (s : State) : State :=
  let s := (s.setPower .crank).setFastFill 0
  (s.setChime s.chime.silence).compose

/-- CRANK follows at once where START is already on (R170). -/
def State.crankIfStart (s : State) : State := if s.pins.start then s.enterCrank else s

/-- An entry to ACTIVE from LOAD, STABILISE or STANDBY: fast fill (R41) and a lamp test (R100); the unknown timer (R33). -/
def State.activeEntry (s : State) : State :=
  (((s.setPower .active).setFastFill 30).startLampTest).startUnknownTimer

/-- ACTIVE from LOAD or STABILISE: besides, an ODO ANNOUNCE (R30), and the tone generator leaves SILENT (R106). -/
def State.enterActiveFresh (s : State) : State := ((s.activeEntry.announce).awakenTone.compose).crankIfStart

/-- ACTIVE from STANDBY. -/
def State.enterActiveStandby (s : State) : State := (s.activeEntry.compose).crankIfStart

/-- ACTIVE from CRANK: no fast fill, no lamp test, no announcement; the tone passes to the head (R110). -/
def State.enterActiveCrank (s : State) : State := ((s.setPower .active).awakenTone).compose

/-- An entry to STANDBY, from any state: an ODOMETER write is requested (R29), and fast fill is over (R41). -/
def State.standbyEntry (s : State) : State := ((s.setPower .standby).setFastFill 0).requestOdometer

/-- STANDBY from LOAD, STABILISE or CRANK: besides, the tone generator leaves SILENT (R106, R110). -/
def State.enterStandbyTone (s : State) : State := (s.standbyEntry.awakenTone).compose

/-- STANDBY from ACTIVE. -/
def State.enterStandbyActive (s : State) : State := s.standbyEntry.compose

/-- The state at the end of LOAD or STABILISE: ACTIVE if RUN is on, else STANDBY (R170). -/
def State.enterByRun (s : State) : State := if s.pins.run then s.enterActiveFresh else s.enterStandbyTone

/-! ## The return stage and SLEEP (R173) -/

/-- The return stage begins: TRIP, COUNTERS and, while odometer-unknown is clear, ODOMETER writes are queued. The channels
go to RETURN at their next updates (R65). -/
def State.beginReturn (s : State) : State :=
  ((s.setPw { s.pw with returning := true, keepAlive := none }).requestTrip.requestCounters).requestOdometer

/-- The Line Port at entry to SLEEP: the inbound queue emptied, holding left, the HOLD pause cleared (R1, R152, R155). -/
def Line.sleep (l : Line) : Line := { l with inbound := [], holding := false, pause := none, rx := .waitIdle }

/-- Power and Timebase at entry to SLEEP: the 20, 100 and 200 ms ticks stop (R174). -/
def PowerUnit.sleep (p : PowerUnit) : PowerUnit :=
  { p with state := .sleep, nextGauge := none, nextTrip := none, nextHeart := none, keepAlive := none,
           returning := false }

/-- Entry to SLEEP (R173): the channels PARKED (R72), every warning QUIET (R87), the chime queue emptied (R102), the
readouts blanked (R130). -/
def State.enterSleep (s : State) : State :=
  let s := s.setPw s.pw.sleep
  let s := s.setLine s.line.sleep
  let s := s.setGauges (s.gauges.map Channel.park)
  let s := s.setWarn s.warn.sleep
  let s := s.setChime s.chime.sleep
  s.compose

/-! ## The wake -/

/-- Power and Timebase at the entry to STABILISE: the stopped ticks begin again one period later (R174), and the state
ends 20 ms later (R170). -/
def PowerUnit.wake (p : PowerUnit) : PowerUnit :=
  { p with state := .stabilise, nextGauge := some (p.time + 20), nextTrip := some (p.time + 100),
           nextHeart := some (p.time + 200), stabiliseEnds := p.time + 20 }

/-- The Line Port at the entry to STABILISE: it waits for the line to become idle (R157). -/
def Line.wake (l : Line) : Line := { l with rx := .waitIdle, idle := false }

/-- The entry to STABILISE from SLEEP: the signal entries become LOST (R15), the records ABSENT (R164), the ring is
emptied with speed found anew (R23, R24), and the tick counts are set to 0 (R64). -/
def State.wake (s : State) : State :=
  let s := s.setPw s.pw.wake
  let s := s.setLine s.line.wake
  let s := s.setSig s.sig.wake
  let s := s.setPeer { s.peer with stations := s.peer.stations.map Station.wake }
  let s := s.setAcc (s.acc.wake s.cal.kDist)
  let s := s.setGauges (s.gauges.map (fun c => { c with tick := 0 }))
  s.compose

/-! ## Reset (R175, R171) -/

/-- The serial memory after a reset has cut the write in progress with `cut` of its words written (R28, R175; log 11). -/
def cutMemory (s : State) (cut : Nat) : Memory :=
  match s.pw.writing with
  | none => s.mem
  | some j => memWriteAll s.mem j.base (j.data.take cut)

/-- The role a strap level gives (R171). -/
def roleOf (high : Bool) : Role := if high then .rear else .front

/-- The straps read at the start of LOAD: station number, role, and the seed of the sequence generator (R159, R171). -/
def State.readStraps (s : State) : State :=
  (s.setPw { s.pw with station := s.pins.straps, role := roleOf s.pins.roleHigh }).setPeer
    { s.peer with generator := some (sequenceSeed s.pins.straps) }

/-- The straps are read if they have not been since the reset: the sequence generator has no value before (R159, R171). -/
def State.strapsRead (s : State) : State := if s.peer.generator = none then s.readStraps else s

/-- A reset: every state item takes its reset value, LOAD begins, and the straps are read. What lies outside the part
stays: its pins, the serial memory, and the commands that wait (log 10). -/
def State.resetPart (s : State) (pins : Pins) (mem : Memory) : State :=
  ((((State.reset.setPins pins).setMem mem).setPending s.pending).setIdled s.idled).readStraps

end Sys2Proof.Machine
end

