-- ==== Sys2Proof/Machine/Load.lean ====
section
/-! DEFINITION. LOAD (R171): the CALIBRATION area and its clamps (R43, R62, R78, R80, R116, R155, R177, R178), the built-in
calibration (R63, R81, R116), and the restored odometer (R27), counters (R118, R140), trips (R58, R59) and baselines (R128). -/

namespace Sys2Proof.Machine

/-! ## The reading (R171) -/

/-- The serial memory as LOAD has read it: how many words were read, the memory, and the addresses it did not answer. -/
structure Image where
  read   : Nat
  mem    : Memory
  silent : List Nat
deriving DecidableEq, Repr

/-- The image of the memory after some words were read, with some words not answered. -/
def loadImage (m : Memory) (wordsRead : Nat) (silent : List Nat) : Image :=
  { read := min wordsRead loadWords, mem := m, silent := silent }

/-- The word the reading gave for an address; one that was not answered reads as FFFFH. -/
def Image.word (i : Image) (a : Nat) : Word :=
  if i.silent.contains a then Config.unansweredWord else memRead i.mem a

/-- A word as a number. -/
def Image.nat (i : Image) (a : Nat) : Nat := (i.word a).toNat

/-- A word as a signed number, in two's complement (R177). -/
def Image.int (i : Image) (a : Nat) : Int := (i.word a).toInt

/-- `n` words from an address. -/
def Image.words (i : Image) (a n : Nat) : List Word := (List.range n).map (fun k => i.word (a + k))

/-- Whether an area of `n` words and its check word was read whole and its check is right (R171). -/
def Image.valid (i : Image) (a n : Nat) : Bool := decide (a + n < i.read) && i.word (a + n) == checkWord (i.words a n)

/-! ## Constants (R178) -/

def unitsOf (code : Nat) : Units :=
  match code with
  | 1 => .us
  | 2 => .imperial
  | _ => .metric

/-- An overspeed limit: 0 stays, 1–29 is taken as 30, above 250 as 250 (R178, R180). -/
def overspeedOf (n : Nat) : Nat := if n = 0 then 0 else clampNat 30 250 n

/-- The watched station: any value above 15 is none (R177). -/
def watchedOf (n : Nat) : Option StationNo := if n ≤ 15 then some (BitVec.ofNat 4 n) else none

/-- A tank point with its clamps, not below the point before it (R43). -/
def tankPoints (i : Image) (a n prev : Nat) : List TankPoint :=
  match n with
  | 0 => []
  | k + 1 =>
    let x := max prev (min 255 (i.nat a))
    { sender := x, volume := min 2000 (i.nat (a + 1)) } :: tankPoints i (a + 2) k x

/-- The number of points of a curve: 2 to 9. -/
def pointCount (n : Nat) : Nat := clampNat 2 9 n

/-- The tank curve of words 160 to 178. -/
def tankOf (i : Image) : List TankPoint := tankPoints i 161 (pointCount (i.nat 160)) 0

/-- The constants and the tank curve of a valid CALIBRATION area. -/
def calOf (i : Image) : Cal :=
  { kDist := clampNat 1000 16000 (i.nat 0), kFuel := clampNat 2000 32000 (i.nat 1),
    economy := clampNat 50 300 (i.nat 2), keepAlive := clampNat 10 600 (i.nat 3), units := unitsOf (i.nat 6),
    overspeed := overspeedOf (i.nat 7), volume := clampNat 1 4 (i.nat 8), clock12 := i.nat 9 == 1,
    lowLevel := min 300 (i.nat 10), hot := clampNat 80 140 (i.nat 11), oil := min 200 (i.nat 12),
    watched := watchedOf (i.nat 13), tank := tankOf i }

/-- The built-in constants and tank curve (R43, R178). -/
def builtInCal : Cal :=
  { kDist := 5000, kFuel := 12500, economy := 120, keepAlive := 60, units := .metric, overspeed := 130, volume := 3,
    clock12 := false, lowLevel := 80, hot := 118, oil := 40, watched := none,
    tank := [{ sender := 0, volume := 0 }, { sender := 255, volume := 800 }] }

/-- The halt level (R155). -/
def haltOf (n : Nat) : Nat := clampNat 8 16 n

/-- The resume level under a halt level (R155). -/
def resumeOf (halt n : Nat) : Nat := min (halt - 2) n

/-! ## Gauge channels (R62, R63, R177) -/

/-- The source a code names; a code that names none is taken as OFF. -/
def sourceOf (code : Nat) : Source :=
  match code with
  | 1 => .speed
  | 2 => .engineSpeed
  | 3 => .fuelLevel
  | 4 => .coolant
  | 5 => .oil
  | 6 => .battery
  | _ => .off

/-- A point input clamped to the source's range (R61). Coolant inputs are signed (R177); an OFF channel has no range, and
its inputs are not read by any update (log 19). -/
def inputOf (src : Source) (i : Image) (a : Nat) : Int :=
  match src with
  | .off => i.nat a
  | .speed => min 2999 (i.nat a)
  | .engineSpeed => min 8160 (i.nat a)
  | .fuelLevel => min 255 (i.nat a)
  | .coolant => clampInt (-40) 150 (i.int a)
  | .oil => min 1020 (i.nat a)
  | .battery => min 255 (i.nat a)

/-- The points of a curve with their clamps: no input lies below the one before it. -/
def curvePoints (src : Source) (i : Image) (a n : Nat) (prev : Option Int) : List CurvePoint :=
  match n with
  | 0 => []
  | k + 1 =>
    let x := match prev with
      | none => inputOf src i a
      | some p => max p (inputOf src i a)
    { input := x, angle := min 1080 (i.nat (a + 1)) } :: curvePoints src i (a + 2) k (some x)

/-- The calibration of a channel whose 24 words begin at `a`. -/
def channelCalOf (i : Image) (a : Nat) : ChannelCal :=
  let src := sourceOf (i.nat a)
  { source := src, curve := curvePoints src i (a + 2) (pointCount (i.nat (a + 1))) none,
    fullScale := clampNat 40 1080 (i.nat (a + 20)), damping := min 7 (i.nat (a + 21)),
    slew := clampNat 1 64 (i.nat (a + 22)), divider := clampNat 1 16 (i.nat (a + 23)) }

/-- The six channel calibrations of a valid area. -/
def channelsOf (i : Image) : List ChannelCal := (List.range 6).map (fun n => channelCalOf i (16 + 24 * n))

/-- The built-in channel calibrations (R63). -/
def builtInChannels : List ChannelCal :=
  [{ source := .speed, curve := [⟨0, 0⟩, ⟨2600, 1080⟩], fullScale := 1080, damping := 2, slew := 16, divider := 1 },
   { source := .engineSpeed, curve := [⟨0, 0⟩, ⟨8000, 1000⟩], fullScale := 1000, damping := 2, slew := 24, divider := 1 },
   { source := .fuelLevel, curve := [⟨0, 0⟩, ⟨255, 360⟩], fullScale := 360, damping := 4, slew := 2, divider := 10 },
   { source := .coolant, curve := [⟨40, 0⟩, ⟨70, 170⟩, ⟨110, 190⟩, ⟨130, 360⟩], fullScale := 360, damping := 3,
     slew := 4, divider := 5 },
   { source := .oil, curve := [⟨0, 0⟩, ⟨600, 360⟩], fullScale := 360, damping := 3, slew := 8, divider := 2 },
   { source := .battery, curve := [⟨100, 0⟩, ⟨160, 360⟩], fullScale := 360, damping := 4, slew := 4, divider := 10 }]

/-! ## Sense inputs (R78, R177) -/

def pullOf (code : Nat) : Pull :=
  match code with
  | 1 => .up
  | 2 => .down
  | _ => .none

/-- The setting of a sense input from its word. -/
def senseOf (n : Nat) : SenseCfg := { pull := pullOf (bitField n 15 8), activeHigh := bitField n 0 0 == 1 }

/-- The sixteen settings of a valid area. -/
def sensesOf (i : Image) : List SenseCfg := (List.range 16).map (fun n => senseOf (i.nat (179 + n)))

/-- The built-in settings: pull UP, active LOW. -/
def builtInSenses : List SenseCfg := List.replicate 16 { pull := .up, activeHigh := false }

/-! ## Warning positions (R80, R81, R177) -/

def kindOfCode (code : Nat) : SignalKind :=
  match code with
  | 0 => .engine
  | 1 => .chassis
  | 2 => .body
  | _ => .fuelLevel

/-- The term a term byte names. -/
def termOf (n : Nat) : Term :=
  match bitField n 7 6 with
  | 0 => .pin (bitField n 3 0)
  | 1 => .remote (kindOfCode (bitField n 5 4)) (bitField n 3 0)
  | 2 => .computed (bitField n 5 0)
  | _ => .never

def operatorOf (code : Nat) : Operator :=
  match code with
  | 1 => .and
  | 2 => .or
  | 3 => .andNot
  | _ => .none

def gateOf (code : Nat) : Gate :=
  match code with
  | 1 => .run
  | 2 => .off
  | _ => .any

def triggerOf (code : Nat) : Trigger :=
  match code with
  | 1 => .edgeRise
  | 2 => .edgeFall
  | 3 => .edgeAny
  | _ => .level

/-- The class a code names; a code naming none is C, and an edge entry of class A is taken as B (R80). -/
def classOf (trigger : Trigger) (code : Nat) : Class :=
  match code with
  | 0 => if trigger = .level then .a else .b
  | 1 => .b
  | _ => .c

def audienceOf (code : Nat) : Audience :=
  match code with
  | 0 => .front
  | 1 => .rear
  | _ => .both

/-- The calibrated fields of a warning position from its four words. -/
def warnCfgOf (w0 w1 w2 w3 : Nat) : WarnCfg :=
  let trigger := triggerOf (bitField w1 9 8)
  { term1 := termOf (bitField w0 15 8), op := operatorOf (bitField w1 14 12), term2 := termOf (bitField w0 7 0),
    gate := gateOf (bitField w1 11 10), trigger := trigger, debounce := min 25 (bitField w1 7 0),
    cls := classOf trigger (bitField w2 15 14), audience := audienceOf (bitField w2 13 12),
    passAck := bitField w2 11 11 == 1,
    lamp := if bitField w2 7 0 ≤ 11 then some (bitField w2 7 0) else none, text := min 39 (bitField w3 7 0) }

/-- The position whose four words begin at `a`: an entry if its in-use flag is set. -/
def positionOf (i : Image) (a : Nat) : Option Warning :=
  if bitField (i.nat (a + 1)) 15 15 = 1 then
    some (Warning.cleared (warnCfgOf (i.nat a) (i.nat (a + 1)) (i.nat (a + 2)) (i.nat (a + 3))))
  else none

/-- The 32 positions of a valid area. -/
def positionsOf (i : Image) : List (Option Warning) := (List.range 32).map (fun p => positionOf i (195 + 4 * p))

/-- A built-in entry without a second term. -/
def builtIn (term : Term) (gate : Gate) (debounce : Nat) (cls : Class) (audience : Audience) (passAck : Bool)
    (lamp : Option Nat) (text : Nat) : WarnCfg :=
  { term1 := term, op := .none, term2 := .never, gate := gate, trigger := .level, debounce := debounce, cls := cls,
    audience := audience, passAck := passAck, lamp := lamp, text := text }

/-- The built-in entries of positions 0 to 8 (R81). -/
def builtInWarnings : List WarnCfg :=
  [builtIn (.computed 10) .any 0 .b .front false (some 11) 0,
   builtIn (.computed 2) .run 10 .a .front false (some 0) 1,
   builtIn (.computed 1) .run 20 .a .both false (some 1) 2,
   builtIn (.remote .engine 0) .run 20 .b .front false (some 2) 3,
   builtIn (.computed 0) .run 25 .c .both true (some 3) 4,
   builtIn (.computed 3) .run 10 .b .both true none 5,
   { builtIn (.remote .body 7) .off 0 .c .front false none 6 with op := .and, term2 := .remote .body 0 },
   builtIn (.computed 9) .any 0 .c .front false (some 11) 7,
   { builtIn (.computed 11) .any 0 .b .front false none 8 with trigger := .edgeRise }]

/-- The built-in table: positions 9 to 31 are not in use. -/
def builtInPositions : List (Option Warning) :=
  builtInWarnings.map (fun c => some (Warning.cleared c)) ++ List.replicate 23 none

/-! ## Service items (R116, R177) -/

/-- An interval: 0 stays, other values are clamped. -/
def intervalOf (lo hi n : Nat) : Nat := if n = 0 then 0 else clampNat lo hi n

/-- A margin under its interval. -/
def marginOf (hi interval n : Nat) : Nat := if interval = 0 then min hi n else min (interval - 1) (min hi n)

/-- The calibrated fields of the service item whose seven words begin at `a`. -/
def serviceCfgOf (i : Image) (a : Nat) : ServiceCfg :=
  let km := intervalOf 500 50000 (i.nat a)
  let days := intervalOf 30 730 (i.nat (a + 1))
  let hours := intervalOf 10 1000 (i.nat (a + 2))
  { kmInterval := km, daysInterval := days, hoursInterval := hours, kmMargin := marginOf 5000 km (i.nat (a + 3)),
    daysMargin := marginOf 60 days (i.nat (a + 4)), hoursMargin := marginOf 50 hours (i.nat (a + 5)),
    text := min 39 (i.nat (a + 6)) }

/-- The six items of a valid area. -/
def serviceCfgsOf (i : Image) : List ServiceCfg := (List.range 6).map (fun n => serviceCfgOf i (323 + 7 * n))

/-- The built-in items (R116). -/
def builtInServices : List ServiceCfg :=
  [{ kmInterval := 15000, daysInterval := 365, hoursInterval := 300, kmMargin := 1000, daysMargin := 30,
     hoursMargin := 25, text := 9 },
   { kmInterval := 30000, daysInterval := 730, hoursInterval := 0, kmMargin := 2000, daysMargin := 60,
     hoursMargin := 0, text := 10 },
   { kmInterval := 0, daysInterval := 730, hoursInterval := 0, kmMargin := 0, daysMargin := 60, hoursMargin := 0,
     text := 11 },
   { kmInterval := 40000, daysInterval := 0, hoursInterval := 0, kmMargin := 2000, daysMargin := 0, hoursMargin := 0,
     text := 12 },
   { kmInterval := 50000, daysInterval := 730, hoursInterval := 0, kmMargin := 2000, daysMargin := 60,
     hoursMargin := 0, text := 13 },
   { kmInterval := 20000, daysInterval := 365, hoursInterval := 0, kmMargin := 1500, daysMargin := 30,
     hoursMargin := 0, text := 14 }]

/-! ## The calibration taken (R171, R178, R180) -/

/-- Everything the CALIBRATION area gives the blocks. -/
structure CalShares where
  cal       : Cal
  halt      : Nat
  resume    : Nat
  channels  : List ChannelCal
  senses    : List SenseCfg
  positions : List (Option Warning)
  services  : List ServiceCfg
  fault     : Bool

/-- Whether the CALIBRATION area is valid: words 0 to 382, check 383 (R177). -/
def calValid (i : Image) : Bool := i.valid 0 383

/-- The calibration of the image, or the built-in defaults with CAL FAULT. -/
def calShares (i : Image) : CalShares :=
  if calValid i then
    { cal := calOf i, halt := haltOf (i.nat 4), resume := resumeOf (haltOf (i.nat 4)) (i.nat 5),
      channels := channelsOf i, senses := sensesOf i, positions := positionsOf i, services := serviceCfgsOf i,
      fault := false }
  else
    { cal := builtInCal, halt := 12, resume := 4, channels := builtInChannels, senses := builtInSenses,
      positions := builtInPositions, services := builtInServices, fault := true }

/-- The Line Port with its levels applied to the count as it stands (R155). -/
def Line.applyLevels (l : Line) (halt resume : Nat) : Line :=
  { l with halt := halt, resume := resume,
           holding := if halt ≤ l.inbound.length then true
                      else if l.inbound.length ≤ resume then false else l.holding }

/-- A service item with its calibrated fields taken. -/
def ServiceItem.calibrated (c : ServiceCfg) : ServiceItem := { ServiceItem.reset with cfg := c }

/-- The blocks take the calibration. -/
def State.takeCalibration (s : State) (c : CalShares) : State :=
  let s := s.setCal c.cal
  let s := s.setPw { s.pw with units := c.cal.units, overspeed := c.cal.overspeed, volume := c.cal.volume,
                               clock12 := c.cal.clock12, calFault := c.fault }
  let s := s.setLine (s.line.applyLevels c.halt c.resume)
  let s := s.setGauges (c.channels.map Channel.loaded)
  let s := s.setWarn { s.warn with sense := c.senses, table := c.positions }
  s.setService { s.service with items := c.services.map ServiceItem.calibrated }

/-! ## The odometer slots (R26, R27) -/

/-- The value of a slot, if it was read and is valid. -/
def slotOf (i : Image) (n : Nat) : Option Nat :=
  let a := odometerBase + 2 * n
  if a + 1 < i.read ∧ slotValid (i.word a) (i.word (a + 1)) = true then some (slotValue (i.word a) (i.word (a + 1)))
  else none

/-- The largest valid value with the lowest slot that holds it, over `n` slots from slot `k` on. -/
def bestSlot (i : Image) (k n : Nat) : Option (Nat × Nat) :=
  match n with
  | 0 => none
  | m + 1 =>
    match slotOf i k, bestSlot i (k + 1) m with
    | none, r => r
    | some v, none => some (k, v)
    | some v, some (j, w) => if w ≤ v then some (k, v) else some (j, w)

/-- The Accumulator takes the odometer (R27). -/
def State.takeOdometer (s : State) (i : Image) : State :=
  match bestSlot i 0 8 with
  | some (n, v) =>
    s.setAcc { s.acc with odo := v, slot := some n, odoUnknown := false, unknownCond := false, metres := 0 }
  | none => s.setAcc { s.acc with odo := 0, slot := none, odoUnknown := true, unknownCond := true, metres := 0 }

/-! ## COUNTERS (R118, R140), TRIP (R58, R59) and SERVICE (R128) -/

/-- The engine hours and the day counter. -/
def State.takeCounters (s : State) (i : Image) : State :=
  let ok := i.valid countersBase 3
  let hours := if ok then min 999999 (i.nat 442 * 65536 + i.nat 443) else 0
  let day := if ok then i.nat 444 else 0
  (s.setService { s.service with hours := hours, seconds := 0 }).setReadout { s.readout with day := day }

/-- A restored record: three low words at `a`, the distance bits above them and the fuel bit above them (R58). -/
def recordOf (i : Image) (a high fuelBit : Nat) : TripRecord :=
  { dist := min maxDist ((high * 65536 + i.nat a) * 10), fuel := min maxFuel ((fuelBit * 65536 + i.nat (a + 1)) * 10),
    elapsed := min maxElapsed (i.nat (a + 2) * 60) }

/-- The window halved, at most `n` times, while its distance is 64,000 m or more. -/
def Trip.halveWhile (t : Trip) (n : Nat) : Trip :=
  match n with
  | 0 => t
  | k + 1 => if 64000 ≤ t.winDist then t.halve.halveWhile k else t

/-- The restored window: halved until its distance lies below 64,000 m (R58, R46; log 20). A saved word is at most 655,350 m,
which four halvings bring below. -/
def Trip.windowOf (t : Trip) (dist fuel : Nat) : Trip :=
  ({ t with winDist := dist, winFuel := min maxFuel fuel }).halveWhile 4

/-- The trip records, snapshots and window (R58, R59). -/
def State.takeTrip (s : State) (i : Image) : State :=
  if i.valid tripBase 16 then
    let d := i.nat 439
    let f := i.nat 440
    let t := { s.trip with
      a := recordOf i 425 (bitField d 15 12) (bitField f 3 3)
      b := recordOf i 428 (bitField d 11 8) (bitField f 2 2)
      snapA := recordOf i 431 (bitField d 7 4) (bitField f 1 1)
      snapB := recordOf i 434 (bitField d 3 0) (bitField f 0 0) }
    s.setTrip (t.windowOf (i.nat 437 * 10) ((bitField f 4 4 * 65536 + i.nat 438) * 10))
  else
    s.setTrip { s.trip with a := TripRecord.zero, b := TripRecord.zero, snapA := TripRecord.zero,
                            snapB := TripRecord.zero, winDist := 0, winFuel := 0 }

/-- An item with its saved baselines; the odometer baseline is lowered to the odometer (R128). -/
def ServiceItem.restored (x : ServiceItem) (i : Image) (a odo : Nat) : ServiceItem :=
  { x with odoBase := min odo (min maxOdo (bitField (i.nat a) 15 8 * 65536 + i.nat (a + 1))),
           dayBase := i.nat (a + 2),
           hoursBase := bitField (i.nat a) 7 0 * 65536 + i.nat (a + 3) }

/-- The items with their saved baselines, from item `n` on. -/
def restoreItems (i : Image) (odo : Nat) (items : List ServiceItem) (n : Nat) : List ServiceItem :=
  match items with
  | [] => []
  | x :: rest => x.restored i (serviceBase + 4 * n) odo :: restoreItems i odo rest (n + 1)

/-- The baselines, a SERVICE write where the area is invalid, and an evaluation (R128). -/
def State.takeService (s : State) (i : Image) : State :=
  if i.valid serviceBase 24 then
    (s.setService { s.service with items := restoreItems i s.acc.odo s.service.items 0 }).evaluateItems
  else
    let s := s.setService { s.service with
      items := s.service.items.map (fun x =>
        { x with odoBase := s.acc.odo, dayBase := s.readout.day, hoursBase := s.service.wholeHours }) }
    s.requestService.evaluateItems

/-! ## The end of LOAD (R171) -/

/-- The blocks take their shares in the order of R171. -/
def State.takeImage (s : State) (i : Image) : State :=
  ((((s.takeCalibration (calShares i)).takeOdometer i).takeCounters i).takeTrip i).takeService i

end Sys2Proof.Machine
end

