-- ==== Sys2Proof/Machine/Events.lean ====
section
/-! DEFINITION. The operations the meanings share: the two ways a command ends, the parts of a tick, the frames that the
Dispatcher takes (R1 to R3), the TEST and KEY frames (R175, R138), and the line's response slots (R148, R152). -/

namespace Sys2Proof.Machine

/-- What a command answers. -/
abbrev Answer := Host.Outcome State Fault Refusal

/-- A command whose event occurs: the new state, with what follows from it at once. -/
def done (s : State) : Answer := .next s.finish

/-- A command whose event does not occur in this state: nothing changes (log 1). -/
def absent (s : State) : Answer := .next s

/-! ## The parts of the ticks -/

/-- The flash phase advances (R99). -/
def State.flashTick (s : State) : State := s.setWarn { s.warn with flash := (s.warn.flash + 1) % 10 }

/-- The states in which evaluations run (R87). -/
def evaluates (p : Power) : Bool := p == .standby || p == .active

/-- One evaluation, in STANDBY and ACTIVE alone (R87). -/
def State.evaluateTick (s : State) : State := if evaluates s.pw.state then s.evaluate s.pins.sense else s

/-- The fast-fill timer's share of a trip tick (R41). -/
def State.fastFillTick (s : State) : State :=
  if s.pw.state = .active then s.setFastFill (s.trip.fastFill - 1) else s

/-- The rotation's share of a trip tick (R135). -/
def State.rotationTick (s : State) : State := s.setReadout s.readout.rotate

/-- A composition at a trip tick, in STANDBY, ACTIVE and CRANK (R130). -/
def State.composeTick (s : State) : State := if dispatcherRuns s.pw.state then s.compose else s

/-- The work of a trip tick, the blocks in the order of log 7. -/
def State.tripTick (s : State) : State :=
  let s := s.setAcc (s.acc.closeSlot s.cal.kDist)
  let s := s.checkStations s.pw.time
  let s := s.setSig (s.sig.ageAll s.pw.time)
  s.flashTick.evaluateTick.fastFillTick.rotationTick.composeTick

/-- The elapsed times at a 1 s tick, in ACTIVE and CRANK (R37). -/
def State.elapsedSecond (s : State) : State :=
  if s.pw.state = .active ∨ s.pw.state = .crank then s.setTrip (s.trip.add 0 0 1) else s

/-- The marks and the lamp test at a 1 s tick (R96, R100). -/
def State.warningSecond (s : State) : State :=
  s.setWarn ((s.warn.expireMarks s.pw.time).endLampTest s.pw.time)

/-- The keep-alive timer at a 1 s tick, after the reasons have been taken account of: at the period the return stage
begins (R172). -/
def State.keepAliveSecond (s : State) : State :=
  let s := s.setPw (s.pw.settle (keepAwake s))
  match s.pw.keepAlive with
  | none => s
  | some n =>
    if s.cal.keepAlive ≤ n + 1 then s.beginReturn else s.setPw { s.pw with keepAlive := some (n + 1) }

/-- The work of a 1 s tick, the blocks in the order of log 7. -/
def State.secondTick (s : State) : State :=
  s.clockSecond.engineSecond.elapsedSecond.warningSecond.unknownSecond.keepAliveSecond

/-! ## Frames taken by the Dispatcher (R1 to R3) -/

/-- The Line Port after a take: holding is left at the resume level or below (R155). -/
def Line.take (l : Line) (rest : List Stored) : Line :=
  { l with inbound := rest, holding := if rest.length ≤ l.resume then false else l.holding }

/-- Takes the oldest frame, if the Dispatcher runs and the frame is one the command names, and applies it whole (R2). -/
def takeFrame (accepts : Frame → Bool) (apply : State → Stored → State) (s : State) : Answer :=
  if dispatcherRuns s.pw.state then
    match s.line.inbound with
    | [] => absent s
    | f :: rest => if accepts f.frame then done (apply (s.setLine (s.line.take rest)) f) else absent s
  else absent s

/-- Whether a frame is of a kind. -/
def ofKind (k : BitVec 5) (f : Frame) : Bool := f.kind == k

/-- Whether a frame's kind is unknown: 0 or 17 to 31 (R3). -/
def ofUnknownKind (f : Frame) : Bool := f.kind == 0#5 || decide (16 < f.kind.toNat)

/-- A frame the Dispatcher discards: it is removed and has no effect (R3). -/
def discardFrame (s : State) (_ : Stored) : State := s

/-! ## TEST frames (R175) -/

/-- Whether a TEST frame names one of the four tests. -/
def namesTest (f : Frame) : Bool := decide (3 ≤ f.len) && decide (1 ≤ (f.byte 2).toNat ∧ (f.byte 2).toNat ≤ 4)

/-- Whether the command of a test code takes a TEST frame: it carries the code, or names no test at all (log 8). -/
def ofTest (code : Nat) (f : Frame) : Bool :=
  f.kind == kindTest && (!namesTest f || decide ((f.byte 2).toNat = code))

/-- A TEST frame's effect: nothing unless it is long enough, names a test, and is addressed to this station (R175). -/
def State.testFrame (s : State) (f : Frame) (effect : State → State) : State :=
  if namesTest f ∧ f.target = s.pw.station then effect s else s

/-! ## KEY frames (R138) -/

/-- Whether a KEY frame is long enough and names a key. -/
def namesKey (f : Frame) : Bool := decide (3 ≤ f.len) && decide (1 ≤ (f.byte 2).toNat ∧ (f.byte 2).toNat ≤ 10)

/-- Whether the command of a key code takes a KEY frame: it carries the code, or names no key at all (log 8). -/
def ofKey (code : Nat) (f : Frame) : Bool :=
  f.kind == kindKey && (!namesKey f || decide ((f.byte 2).toNat = code))

/-- Whether a target role names this part: its own role or BOTH. -/
def roleNamed (r : Role) (target : Nat) : Bool := target == 2 || target == (if r = .front then 0 else 1)

/-- The record of a KEY frame (R129). -/
def keyRecord (f : Stored) : KeyRecord :=
  { source := f.frame.source, target := f.frame.byte 1, code := f.frame.byte 2, arg := f.frame.byte 3,
    arrival := f.arrival }

/-- Whether a KEY frame repeats the last one taken: all equal, and less than 60 ms after it (R138). -/
def isRepeat (last : Option KeyRecord) (r : KeyRecord) : Bool :=
  match last with
  | none => false
  | some l =>
    l.source == r.source && l.target == r.target && l.code == r.code && l.arg == r.arg &&
      decide (r.arrival < l.arrival + 60)

/-- A KEY frame at the Readout Driver: ignored, a repeat, or taken, recorded and treated by its key (R138). -/
def State.keyFrame (s : State) (f : Stored) (key : State → State) : State :=
  if namesKey f.frame ∧ roleNamed s.pw.role (f.frame.byte 1).toNat = true then
    if isRepeat s.readout.lastKey (keyRecord f) then s
    else key (s.setReadout { s.readout with lastKey := some (keyRecord f) })
  else s

/-- The key click is asked for (R111). -/
def State.keyClick (s : State) : State := s.setChime (s.chime.askClick s.pw.time false)

/-- The refusal click is asked for (R112). -/
def State.refusalClick (s : State) : State := s.setChime (s.chime.askClick s.pw.time true)

/-- An accepted key: the readouts are composed, then the key click is asked for (R138). -/
def State.acceptKey (s : State) : State := s.compose.keyClick

/-! ## The response slots (R148, R152) -/

/-- The HOLD slot of a frame: the part drives it while holding; if it reads dominant, the pause starts or starts again
for 40 ms and *holds seen* is counted. `others` tells whether another station drives it. -/
def State.holdSlot (s : State) (others : Bool) : State :=
  let own := s.line.holding
  if own || others then
    (s.setLine { s.line with holdDriven := own, pause := some (s.pw.time + 40) }).setTally
      { s.tally with holdsSeen := bump16 s.tally.holdsSeen }
  else s.setLine { s.line with holdDriven := own }

/-- A frame counted in *rx check errors* (R146). -/
def State.checkError (s : State) : State :=
  s.setTally { s.tally with rxCheckErrors := bump16 s.tally.rxCheckErrors }

/-- The number of frames the inbound queue can hold (R144). -/
def inboundCapacity : Nat := 16

/-- A good frame stored with its arrival time and acknowledged, holding entered at the halt level; or refused at a full
queue with *rx overflow* counted (R147, R148, R155). -/
def State.storeFrame (s : State) (f : Frame) : State :=
  if s.line.inbound.length < inboundCapacity then
    s.setLine { s.line with
      inbound := s.line.inbound ++ [{ frame := f, arrival := s.pw.time }]
      holding := s.line.holding || decide (s.line.halt ≤ s.line.inbound.length + 1)
      ackDriven := true }
  else
    (s.setLine { s.line with ackDriven := false }).setTally
      { s.tally with rxOverflow := bump16 s.tally.rxOverflow }

/-- The receiver after the bits of a frame: ready for the next. -/
def State.rxReady (s : State) : State := s.setLine { s.line with rx := .ready }

/-- The Line Port with neither slot of a frame driven: the slots lie ahead, or the frame does not reach them (R146, R148). -/
def Line.slotsAhead (l : Line) : Line := { l with ackDriven := false, holdDriven := false }

/-- The Line Port with the frame in reception, if there is one, broken off: it is not stored and its slots not driven (R146,
R156). -/
def Line.breakOff (l : Line) : Line :=
  match l.rx with
  | .midFrame _ => { l.slotsAhead with rx := .ready }
  | _ => l

/-- What the receiver does with the bits of a frame read so far (R146 to R148). -/
def State.receiveBits (s : State) (bits : List Bool) (others : Bool) : State :=
  match readFrame bits with
  | .incomplete => s.setLine { s.line with rx := .midFrame bits }
  | .badLength => (s.setLine { s.line.slotsAhead with rx := .waitIdle }).checkError
  | .bad => ((s.setLine { s.line with rx := .ready, ackDriven := false }).checkError).holdSlot others
  | .good f => ((s.rxReady).storeFrame f).holdSlot others

/-- The bits of the frame in reception before these (R146). -/
def Receiver.bitsSoFar (r : Receiver) : List Bool :=
  match r with
  | .midFrame bits => bits
  | _ => []

/-! ## Beginning a frame (R149) -/

/-- Whether a HOLD pause is running. -/
def pauseRuns (s : State) : Bool :=
  match s.line.pause with
  | some t => decide (s.pw.time < t)
  | none => false

/-- The head entry, if a frame may begin now (R149). -/
def mayBegin (s : State) : Option TxEntry :=
  if dispatcherRuns s.pw.state && !s.line.fault && s.line.idle && (txSending s.line.tx).isNone then
    match s.line.tx with
    | [] => none
    | e :: _ => if priorityOf e.kind ≤ 3 ∨ pauseRuns s = false then some e else none
  else none

/-- The frame of an entry, with this part's station number as its source. -/
def TxEntry.frame (e : TxEntry) (source : StationNo) : Frame := { kind := e.kind, source := source, data := e.data }

end Sys2Proof.Machine
end

