-- ==== Sys2Proof/Machine/FrameCommands.lean ====
section
/-! DEFINITION. The meanings of the other frames the Dispatcher takes (R3): WARN ACK, SERVICE RESET, ODO ANNOUNCE, CLOCK,
OPTIONS, STATUS, TALLY REQUEST, CAL WRITE, and the discarded kinds. -/

namespace Sys2Proof.Machine

/-! ## WARN ACK (R95) -/

/-- A WARN ACK that may act on the named entry: the entry's state decides (R95). An entry in ACKED stays as it is, an edge entry
too: R95's table says so, and R92 lists a received acknowledgement as ending it (DEDUCED, log 38). -/
def State.ackByFrame (s : State) (n : Nat) (e : Warning) : State :=
  match e.state with
  | .active => s.acknowledgeEntry n e
  | .quiet => s.setWarn (s.warn.setEntry n { e with mark := some (s.pw.time + 2000) })
  | .pending => s.setWarn (s.warn.setEntry n { e with mark := some (s.pw.time + 2000) })
  | .acked => s

/-- A WARN ACK frame at the Warning Unit. -/
def State.warnAckFrame (s : State) (f : Frame) : State :=
  if f.len < 2 then s else
  match s.warn.entry (f.byte 1).toNat with
  | none => s
  | some e => if bitAt (f.byte 2) 7 && !e.cfg.passAck then s else s.ackByFrame (f.byte 1).toNat e

/-- WARN_ACK (R95). -/
def execWarnAck (s : State) : Answer := takeFrame (ofKind kindWarnAck) (fun s f => s.warnAckFrame f.frame) s

/-! ## SERVICE RESET (R126) -/

/-- A SERVICE RESET frame at the Service Unit. -/
def State.serviceResetFrame (s : State) (f : Frame) : State :=
  if f.len < 6 ∨ 5 < (f.byte 1).toNat then s
  else
    (s.rebaseItem (f.byte 1).toNat (min (fromBytes [f.byte 2, f.byte 3, f.byte 4]) s.acc.odo)
      (fromBytes [f.byte 5, f.byte 6]) s.service.wholeHours).requestService

/-- SERVICE_RESET (R126). -/
def execServiceReset (s : State) : Answer :=
  takeFrame (ofKind kindServiceReset) (fun s f => s.serviceResetFrame f.frame) s

/-! ## ODO ANNOUNCE (R31, R32) -/

/-- An ODO ANNOUNCE frame at the Accumulator. -/
def State.odoFrame (s : State) (f : Frame) : State :=
  if f.len < 4 ∨ bitAt (f.byte 4) 7 = true then s else s.peerOdometer (fromBytes [f.byte 1, f.byte 2, f.byte 3])

/-- ODO_ANNOUNCE (R31, R32). -/
def execOdoAnnounce (s : State) : Answer := takeFrame (ofKind kindOdoAnnounce) (fun s f => s.odoFrame f.frame) s

/-! ## CLOCK (R143) -/

/-- Whether a CLOCK frame comes from the last minute of the previous day, while this clock has passed midnight. -/
def staleDay (r : Readout) (day : Nat) : Bool := day + 1 == r.day && r.hour == 0 && r.minute == 0

/-- A CLOCK frame at the Readout Driver. -/
def State.clockFrame (s : State) (f : Frame) : State :=
  let h := (f.byte 1).toNat
  let m := (f.byte 2).toNat
  let sec := (f.byte 3).toNat
  let day := fromBytes [f.byte 4, f.byte 5]
  if s.pw.role = .front ∨ f.len < 5 ∨ 23 < h ∨ 59 < m ∨ 59 < sec ∨ staleDay s.readout day = true then s
  else
    let raised := decide (s.readout.day < day)
    let s := s.setReadout { s.readout with
      hour := h, minute := m, second := sec, unset := false, day := max s.readout.day day }
    if raised then s.dayFollows else s

/-- CLOCK (R143). -/
def execClock (s : State) : Answer := takeFrame (ofKind kindClock) (fun s f => s.clockFrame f.frame) s

/-! ## OPTIONS (R180) -/

/-- A unit code of OPTIONS; a code naming nothing keeps the calibration value. -/
def optionUnits (keep : Units) (code : Nat) : Units :=
  match code with
  | 0 => .metric
  | 1 => .us
  | 2 => .imperial
  | _ => keep

/-- A clock format code of OPTIONS; a code naming nothing keeps the calibration value. -/
def optionClock (keep : Bool) (code : Nat) : Bool :=
  match code with
  | 0 => false
  | 1 => true
  | _ => keep

/-- An OPTIONS frame at Power and Timebase. -/
def State.optionsFrame (s : State) (f : Frame) : State :=
  if f.len < 4 ∨ s.pw.optionsTaken = true then s
  else s.setPw { s.pw with
    optionsTaken := true
    units := optionUnits s.cal.units (f.byte 1).toNat
    overspeed := overspeedOf (f.byte 2).toNat
    volume := clampNat 1 4 (f.byte 3).toNat
    clock12 := optionClock s.cal.clock12 (f.byte 4).toNat }

/-- OPTIONS (R180). -/
def execOptions (s : State) : Answer := takeFrame (ofKind kindOptions) (fun s f => s.optionsFrame f.frame) s

/-! ## STATUS and TALLY REQUEST -/

/-- STATUS (R161, R162). -/
def execStatus (s : State) : Answer := takeFrame (ofKind kindStatus) (fun s f => s.statusFrame f) s

/-- TALLY_REQUEST (R166). -/
def execTallyRequest (s : State) : Answer :=
  takeFrame (ofKind kindTallyRequest) (fun s f => s.tallyRequest f.frame) s

/-! ## CAL WRITE (R181) -/

/-- The results of a CAL REPLY. -/
def resultOk : Byte := 0#8
def resultRefused : Byte := 1#8
def resultBusy : Byte := 2#8
def resultDone : Byte := 3#8

/-- Whether a pending write is a calibration word's. -/
def WriteEntry.isCal (e : WriteEntry) : Bool :=
  match e.key with
  | .calWord _ => true
  | _ => false

/-- The calibration writes waiting in the write queue. -/
def calWaiting (q : List WriteEntry) : Nat := q.countP WriteEntry.isCal

/-- The result of a CAL WRITE, by the first row that applies. -/
def calResult (s : State) (a : Nat) : Byte :=
  if 383 < a then resultRefused
  else if s.pw.state = .active ∧ s.acc.speed ≠ 0 then resultRefused
  else if 4 ≤ calWaiting s.pw.queue ∧ s.pw.queue.any (fun e => e.key == .calWord a) = false then resultBusy
  else resultOk

/-- Queues a CAL REPLY. -/
def State.calReply (s : State) (a : Nat) (result : Byte) : State :=
  s.sendFrame kindCalReply (some a) [byteOf a 1, byteOf a 0, result]

/-- A CAL WRITE frame at Power and Timebase. -/
def State.calWriteFrame (s : State) (f : Frame) : State :=
  if f.len < 5 ∨ f.target ≠ s.pw.station then s
  else
    let a := (f.word 2).toNat
    let result := calResult s a
    (if result = resultOk then s.requestWrite (.calWord a) [f.word 4] else s).calReply a result

/-- CAL_WRITE (R181). -/
def execCalWrite (s : State) : Answer := takeFrame (ofKind kindCalWrite) (fun s f => s.calWriteFrame f.frame) s

/-! ## Discarded kinds (R3) -/

/-- TALLY_REPORT: discarded. -/
def execTallyReport (s : State) : Answer := takeFrame (ofKind kindTallyReport) discardFrame s

/-- CAL_REPLY: discarded. -/
def execCalReply (s : State) : Answer := takeFrame (ofKind kindCalReply) discardFrame s

/-- UNKNOWN_KIND: discarded. -/
def execUnknownKind (s : State) : Answer := takeFrame ofUnknownKind discardFrame s

end Sys2Proof.Machine
end

