-- ==== Sys2Proof/Machine/KeyCommands.lean ====
section
/-! DEFINITION. The meanings of the KEY frames (R138, R139, R141, R93, R123, R86). -/

namespace Sys2Proof.Machine

/-! ## Pages and selections -/

/-- PAGE NEXT in ACTIVE (R133). -/
def State.pageNextKey (s : State) : State :=
  if s.pw.state = .active then (s.setReadout (s.readout.turnTo (nextPage s.pw.role s.readout.page))).acceptKey else s

/-- PAGE BACK in ACTIVE (R133). -/
def State.pageBackKey (s : State) : State :=
  if s.pw.state = .active then (s.setReadout (s.readout.turnTo (previousPage s.pw.role s.readout.page))).acceptKey
  else s

/-- TRIP SELECT in ACTIVE (R139). -/
def State.tripSelectKey (s : State) : State :=
  if s.pw.state = .active then (s.setReadout s.readout.otherTrip).acceptKey else s

/-- Whether TRIP RESET is accepted: a trip page or the LAST TRIP page, and no text over it (R139). -/
def tripResetAccepted (s : State) : Bool :=
  (s.readout.page.isTrip || s.readout.page == .lastTrip) && !textCovers s

/-- TRIP RESET in ACTIVE (R139, R38). -/
def State.tripResetKey (s : State) : State :=
  if s.pw.state = .active then
    if tripResetAccepted s then (s.setTrip (s.trip.reset s.readout.tripSel)).acceptKey else s.refusalClick
  else s

/-- ODO SELECT in ACTIVE (R137). -/
def State.odoSelectKey (s : State) : State :=
  if s.pw.state = .active then (s.setReadout { s.readout with odoSel := nextOdoSel s.readout.odoSel }).acceptKey
  else s

/-- PAGE_NEXT. -/
def execPageNext (s : State) : Answer := takeFrame (ofKey 1) (fun s f => s.keyFrame f State.pageNextKey) s

/-- PAGE_BACK. -/
def execPageBack (s : State) : Answer := takeFrame (ofKey 2) (fun s f => s.keyFrame f State.pageBackKey) s

/-- TRIP_SELECT. -/
def execTripSelect (s : State) : Answer := takeFrame (ofKey 3) (fun s f => s.keyFrame f State.tripSelectKey) s

/-- TRIP_RESET. -/
def execTripReset (s : State) : Answer := takeFrame (ofKey 4) (fun s f => s.keyFrame f State.tripResetKey) s

/-- ODO_SELECT. -/
def execOdoSelect (s : State) : Answer := takeFrame (ofKey 5) (fun s f => s.keyFrame f State.odoSelectKey) s

/-! ## ACKNOWLEDGE (R93, R94) -/

/-- The data of a WARN ACK: the warning's number, and the origin role in bit 7 (R94). -/
def warnAckData (r : Role) (n : Nat) : List Byte := [byteOf n 0, if r = .rear then 0x80#8 else 0#8]

/-- Whether this role may acknowledge an entry (R93). -/
def mayAcknowledge (r : Role) (e : Warning) : Bool := r == .front || e.cfg.passAck

/-- The acknowledgement of the foremost warning, if there is one and the role may. -/
def State.acknowledgeForemost (s : State) : State :=
  match foremost s with
  | none => s
  | some n =>
    match s.warn.entry n with
    | none => s
    | some e =>
      if mayAcknowledge s.pw.role e then
        (s.acknowledgeEntry n e).sendFrame kindWarnAck (some n) (warnAckData s.pw.role n)
      else s

/-- ACKNOWLEDGE in STANDBY and ACTIVE; the click is asked for in every case (R93). -/
def State.acknowledgeKey (s : State) : State :=
  if s.pw.state = .standby ∨ s.pw.state = .active then s.acknowledgeForemost.keyClick else s

/-- ACKNOWLEDGE. -/
def execAcknowledge (s : State) : Answer := takeFrame (ofKey 6) (fun s f => s.keyFrame f State.acknowledgeKey) s

/-! ## HOUR and MINUTE (R141) -/

/-- Whether the clock may be set by a key: FRONT, in STANDBY and ACTIVE. -/
def clockKeyTaken (s : State) : Bool := s.pw.role == .front && evaluates s.pw.state

/-- HOUR. -/
def State.hourKey (s : State) : State :=
  if clockKeyTaken s then
    (s.setReadout { s.readout with hour := (s.readout.hour + 1) % 24, unset := false }).acceptKey.sendClock
  else s

/-- MINUTE. -/
def State.minuteKey (s : State) : State :=
  if clockKeyTaken s then
    (s.setReadout { s.readout with minute := (s.readout.minute + 1) % 60, second := 0, unset := false }).acceptKey.sendClock
  else s

/-- HOUR. -/
def execHour (s : State) : Answer := takeFrame (ofKey 7) (fun s f => s.keyFrame f State.hourKey) s

/-- MINUTE. -/
def execMinute (s : State) : Answer := takeFrame (ofKey 8) (fun s f => s.keyFrame f State.minuteKey) s

/-! ## SERVICE RESET (R123 to R125) -/

/-- The conditions under which a SERVICE RESET key is accepted (R123). -/
def serviceResetAccepted (s : State) (item : Nat) : Bool :=
  s.pw.role == .front && s.pw.state == .active && s.sig.chassisHdr.fresh == .fresh && s.acc.speed == 0 &&
    s.sig.engineHdr.fresh == .fresh && decide (s.sig.engine.speed < 400) && decide (item ≤ 5)

/-- The data of a SERVICE RESET frame (R125). -/
def serviceResetData (item odoBase dayBase : Nat) : List Byte :=
  [byteOf item 0, byteOf odoBase 2, byteOf odoBase 1, byteOf odoBase 0, byteOf dayBase 1, byteOf dayBase 0]

/-- An accepted SERVICE RESET key, in the order of R124 up to its click. -/
def State.resetItem (s : State) (item : Nat) : State :=
  let s := s.rebaseItem item s.acc.odo s.readout.day s.service.wholeHours
  let s := s.requestOdometer.requestService
  s.sendFrame kindServiceReset (some item) (serviceResetData item s.acc.odo s.readout.day)

/-- SERVICE RESET in ACTIVE. -/
def State.serviceResetKey (s : State) (item : Nat) : State :=
  if s.pw.state = .active then
    if serviceResetAccepted s item then (s.resetItem item).keyClick else s.refusalClick
  else s

/-- SERVICE_RESET_KEY. -/
def execServiceResetKey (s : State) : Answer :=
  takeFrame (ofKey 9) (fun s f => s.keyFrame f (fun s => s.serviceResetKey (f.frame.byte 3).toNat)) s

/-! ## CALL (R86) -/

/-- CALL at the FRONT cluster, in ACTIVE and CRANK. -/
def State.callKey (s : State) : State :=
  if s.pw.role = .front ∧ (s.pw.state = .active ∨ s.pw.state = .crank) then
    (s.setWarn { s.warn with callPending := true }).keyClick
  else s

/-- CALL. -/
def execCall (s : State) : Answer := takeFrame (ofKey 10) (fun s f => s.keyFrame f State.callKey) s

end Sys2Proof.Machine
end

