-- ==== Sys2Proof/Machine/LineCommands.lean ====
section
/-! DEFINITION. The meanings of the line's commands: reception, the HOLD pause, attempts, faults, and the idle line (R144 to
R157). -/

namespace Sys2Proof.Machine

/-- FRAME_RECEIVE (R146 to R148, R152): bits of another station's frame. A receiver that waits for the idle line takes
none of them, and in SLEEP nothing is received (R157). Until the frame's slots are reached the part has driven neither. -/
def execFrameReceive (bits : List Bool) (hold : Bool) (s : State) : Answer :=
  if receiverRuns s.pw.state ∧ bits ≠ [] then
    let s := s.setLine { s.line.slotsAhead with idle := false }
    if s.line.rx = .waitIdle then done s else done (s.receiveBits (s.line.rx.bitsSoFar ++ bits) hold)
  else absent s

/-- HOLD_PAUSE_END (R152): the pause's end time comes. -/
def execHoldPauseEnd (s : State) : Answer :=
  match s.line.pause with
  | none => absent s
  | some t => let s := s.advanceTo t
              done (s.setLine { s.line with pause := none })

/-- FRAME_BEGIN (R149, R150): the head entry is begun at an idle line. A lost arbitration leaves it as it was; a bit error
ends the attempt at once (log 25). -/
def execFrameBegin (others : List Bool) (s : State) : Answer :=
  match mayBegin s with
  | none => absent s
  | some e =>
    let s := s.setLine { s.line with tx := txBegin s.line.tx, idle := false }
    match sendResult (frameLevels (priorityOf e.kind) (e.frame s.pw.station)) others with
    | .sent => done s
    | .arbitrationLost => done (s.setLine { s.line with tx := txLost s.line.tx })
    | .bitError => done (s.endAttempt false)

/-- ATTEMPT_END (R151, R152): the attempt in progress reaches its slots. The sender does not drive the ACK slot. Only in
STANDBY, ACTIVE and CRANK is one in progress (R149). -/
def execAttemptEnd (ack : Bool) (hold : Bool) (s : State) : Answer :=
  if (txSending s.line.tx).isSome ∧ dispatcherRuns s.pw.state = true then
    let s := s.setLine { s.line with ackDriven := false }
    done ((s.holdSlot hold).endAttempt ack)
  else absent s

/-- LINE_FAULT_DETECT (R156): a dominant run of 20 bit times. An attempt ends without ACK, and a frame in reception is discarded
uncounted. Each run is counted, one that comes before an earlier fault has cleared too (log 16). -/
def execLineFaultDetect (s : State) : Answer :=
  if receiverRuns s.pw.state then
    let s := s.setLine { s.line.breakOff with fault := true, idle := false }
    let s := s.setTally { s.tally with lineFaults := bump8 s.tally.lineFaults }
    done (s.endAttempt false)
  else absent s

/-- LINE_FAULT_CLEAR (R156): the transmitter is enabled again. DESIGN CHOICE (log 37): R156 names no power state; a fault that
is set at entry to SLEEP stays set in SLEEP, where the receiver watches for the wake edge alone (R157). -/
def execLineFaultClear (s : State) : Answer :=
  if receiverRuns s.pw.state ∧ s.line.fault = true then done (s.setLine { s.line with fault := false }) else absent s

/-- LINE_IDLE (R145, R146, R157): the line has become idle. A frame broken off is counted; a waiting receiver is ready for
the next frame. -/
def execLineIdle (s : State) : Answer :=
  if receiverRuns s.pw.state then
    match s.line.rx with
    | .midFrame _ => done ((s.setLine { s.line.breakOff with idle := true }).checkError)
    | _ => done (s.setLine { s.line with idle := true, rx := .ready })
  else absent s

end Sys2Proof.Machine
end

