-- ==== Sys2Proof/Machine/MemoryCommands.lean ====
section
/-! DEFINITION. The meanings of the serial memory writes (R28, R179, R181). -/

namespace Sys2Proof.Machine

/-- The write job of a pending entry: an ODOMETER write takes the slot after the current one (R28, R179). -/
def writeJob (e : WriteEntry) (current : Option Nat) : WriteJob :=
  { key := e.key, base := writeBase e.key (targetSlot current), data := e.data, target := targetSlot current }

/-- WRITE_BEGIN (R179): the pending ODOMETER entry, otherwise the oldest, leaves the queue and is being written. -/
def execWriteBegin (s : State) : Answer :=
  if writeMayBegin s then
    match nextWrite s.pw.queue with
    | none => absent s
    | some e =>
      done (s.setPw { s.pw with queue := s.pw.queue.filter (fun x => x.key != e.key)
                                writing := some (writeJob e s.acc.slot) })
  else absent s

/-- What the requester of a completed write does (R28, R179, R181). -/
def State.writeEnded (s : State) (j : WriteJob) : State :=
  match j.key with
  | .odometer => s.setAcc { s.acc with slot := some j.target }
  | .calWord a => s.calReply a resultDone
  | .service => s
  | .trip => s
  | .counters => s

/-- WRITE_COMPLETE (R179): the words stand in the memory, and the requester is told. A write outside the 512 words of the
memory has no effect in the spec (R177): it faults (log 30). -/
def execWriteComplete (s : State) : Answer :=
  match s.pw.writing with
  | none => absent s
  | some j =>
    if memoryWords < j.base + j.data.length then .fault (.noSuchWord (j.base + j.data.length - 1))
    else
      let s := (s.setPw { s.pw with writing := none }).setMem (memWriteAll s.mem j.base j.data)
      done (s.writeEnded j)

end Sys2Proof.Machine
end

