-- ==== Sys2Proof/Machine/PowerCommands.lean ====
section
/-! DEFINITION. The meanings of the power commands: resets, the ends of LOAD and STABILISE, the ignition inputs, the wake
edge, the keep-alive expiry and the entry to SLEEP (R170 to R175). -/

namespace Sys2Proof.Machine

/-- POWER_ON_RESET (R175): power is applied, and LOAD follows with the straps as they read. -/
def execPowerOnReset (straps : StationNo) (rear : Bool) (cut : Nat) (s : State) : Answer :=
  .next (s.resetPart { s.pins with straps := straps, roleHigh := rear } (cutMemory s cut))

/-- RESET_PIN (R175): the reset pin is held low and released. -/
def execResetPin (straps : StationNo) (rear : Bool) (cut : Nat) (s : State) : Answer :=
  .next (s.resetPart { s.pins with straps := straps, roleHigh := rear } (cutMemory s cut))

/-- LOAD_END (R171): the straps are read if LOAD has not begun with that; reading ends, at 250 ms if it was not complete; the
blocks take their shares and the state is chosen by RUN (R170). -/
def execLoadEnd (wordsRead : Nat) (silent : List Nat) (s : State) : Answer :=
  if s.pw.state = .load then
    let s := s.strapsRead
    let s := if wordsRead < loadWords then s.advanceTo 250 else s
    done ((s.takeImage (loadImage s.mem wordsRead silent)).enterByRun)
  else absent s

/-- STABILISE_END (R170): 20 ms after entry to STABILISE. -/
def execStabiliseEnd (s : State) : Answer :=
  if s.pw.state = .stabilise then done ((s.advanceTo s.pw.stabiliseEnds).enterByRun) else absent s

/-- RUN_ON (R170, R173). -/
def execRunOn (s : State) : Answer :=
  if s.pins.run then absent s else
  let s := s.setPins { s.pins with run := true }
  match s.pw.state with
  | .standby => done s.enterActiveStandby
  | .sleep => done s.wake
  | _ => done s

/-- RUN_OFF (R170): ACTIVE with START off goes to STANDBY. -/
def execRunOff (s : State) : Answer :=
  if s.pins.run then
    let s := s.setPins { s.pins with run := false }
    if s.pw.state = .active ∧ s.pins.start = false then done s.enterStandbyActive else done s
  else absent s

/-- START_ON (R170). -/
def execStartOn (s : State) : Answer :=
  if s.pins.start then absent s else
  let s := s.setPins { s.pins with start := true }
  match s.pw.state with
  | .active => done s.enterCrank
  | .sleep => done s.wake
  | _ => done s

/-- START_OFF (R170): CRANK ends, to ACTIVE or STANDBY by RUN. -/
def execStartOff (s : State) : Answer :=
  if s.pins.start then
    let s := s.setPins { s.pins with start := false }
    if s.pw.state = .crank then
      (if s.pins.run then done s.enterActiveCrank else done s.enterStandbyTone)
    else done s
  else absent s

/-- LINE_WAKE_EDGE (R157): in SLEEP a dominant edge wakes the part; elsewhere it is an ordinary start bit. -/
def execLineWakeEdge (s : State) : Answer := if s.pw.state = .sleep then done s.wake else absent s

/-- KEEP_ALIVE_EXPIRY (R172): the return stage begins. DESIGN CHOICE (log 6): the expiry is a share of the 1 s tick that brings
the count to its period; as a command of its own it is enabled where the next such tick would, one below the period, and does
that share alone, at no tick. -/
def execKeepAliveExpiry (s : State) : Answer :=
  match s.pw.keepAlive with
  | none => absent s
  | some n => if s.pw.state = .standby ∧ s.cal.keepAlive ≤ n + 1 then done s.beginReturn else absent s

/-- ENTRY_TO_SLEEP (R173): as soon as the three conditions hold in the return stage. -/
def execEntryToSleep (s : State) : Answer := if sleepConditions s then done s.enterSleep else absent s

end Sys2Proof.Machine
end

