-- ==== Sys2Proof/Machine/SignalCommands.lean ====
section
/-! DEFINITION. The meanings of the signal frames the Dispatcher takes (R5 to R12). -/

namespace Sys2Proof.Machine

/-- ENGINE (R5 to R11): the fuel count goes to the Accumulator. -/
def execEngine (s : State) : Answer := takeFrame (ofKind kindEngine) (fun s f => s.signalFrame .engine f) s

/-- CHASSIS (R5 to R11): the distance count goes to the Accumulator. -/
def execChassis (s : State) : Answer := takeFrame (ofKind kindChassis) (fun s f => s.signalFrame .chassis f) s

/-- BODY (R5 to R10). -/
def execBody (s : State) : Answer := takeFrame (ofKind kindBody) (fun s f => s.signalFrame .body f) s

/-- FUEL_LEVEL (R5 to R10, R12): a good sender value goes to the level filter. -/
def execFuelLevel (s : State) : Answer := takeFrame (ofKind kindFuelLevel) (fun s f => s.signalFrame .fuelLevel f) s

end Sys2Proof.Machine
end

