-- ==== Sys2Proof/Machine/TestCommands.lean ====
section
/-! DEFINITION. The meanings of the TEST frames and of the restart (R168, R169, R175). -/

namespace Sys2Proof.Machine

/-- LAMP (R100, R175): a lamp test starts. -/
def execLamp (s : State) : Answer :=
  takeFrame (ofTest 1) (fun s f => s.testFrame f.frame State.startLampTest) s

/-- The insertion rate taken: an argument above 3 is taken as 3, and the count is set to 0 (R168). -/
def State.takeRate (s : State) (n : Nat) : State := s.setPeer { s.peer with rate := min 3 n, count := 0 }

/-- INSERT_RATE (R168). -/
def execInsertRate (s : State) : Answer :=
  takeFrame (ofTest 2) (fun s f => s.testFrame f.frame (fun s => s.takeRate (f.frame.byte 3).toNat)) s

/-- INSERT_ONCE (R169). -/
def execInsertOnce (s : State) : Answer :=
  takeFrame (ofTest 3) (fun s f => s.testFrame f.frame (fun s => s.setPeer { s.peer with once := true })) s

/-- RESTART (R175): restart pending is set. -/
def execRestart (s : State) : Answer :=
  takeFrame (ofTest 4) (fun s f => s.testFrame f.frame (fun s => s.setPw { s.pw with restartPending := true })) s

/-- RESTART_RESET (R175): with restart pending, an empty write queue and no write in progress, the part is reset. -/
def execRestartReset (s : State) : Answer :=
  if s.pw.restartPending = true ∧ writesDone s = true then .next (s.resetPart s.pins s.mem) else absent s

end Sys2Proof.Machine
end

