-- ==== Sys2Proof/Machine/TickCommands.lean ====
section
/-! DEFINITION. The meanings of the ticks (R174) and of the shares of a tick that the table lists as rows of their own
(log 6): each is enabled where the next tick would bring it, and does that share alone. -/

namespace Sys2Proof.Machine

/-! ## The 20 ms tick -/

/-- GAUGE_TICK (R64, R174): in STABILISE, STANDBY and ACTIVE the tick counts advance, with the updates they bring. -/
def execGaugeTick (s : State) : Answer :=
  match s.pw.nextGauge with
  | none => absent s
  | some t =>
    let s := s.advanceTo t
    let s := s.setPw { s.pw with nextGauge := some (t + 20) }
    if gaugesRun s.pw.state then done (s.setGauges (s.gauges.map s.tickChannel)) else done s

/-- CHANNEL_UPDATE (R64, R65): one channel's share of the gauge tick that completes its tick count, alone (log 5): the count
is set to 0 and the update made. -/
def execChannelUpdate (channel : Fin 6) (s : State) : Answer :=
  match s.gauges[channel.val]? with
  | none => absent s
  | some c =>
    if gaugesRun s.pw.state ∧ c.due = true then
      done (s.setGauges (updateAt s.gauges channel.val s.updateChannel))
    else absent s

/-! ## The 100 ms tick -/

/-- TRIP_TICK (R23, R13, R163, R87, R99, R41, R135, R130): `sense` are the levels on SI15–SI0 (log 31). -/
def execTripTick (sense : BitVec 16) (s : State) : Answer :=
  match s.pw.nextTrip with
  | none => absent s
  | some t =>
    let s := s.advanceTo t
    let s := s.setPw { s.pw with nextTrip := some (t + 100) }
    done ((s.setPins { s.pins with sense := sense }).tripTick)

/-- SIGNAL_STALE (R13): the first trip tick at which the age exceeds the max age finds the entry FRESH and below its LOST
age. -/
def execSignalStale (kind : SignalKind) (s : State) : Answer :=
  match s.pw.nextTrip with
  | none => absent s
  | some t =>
    let h := s.sig.hdr kind
    let at' := max s.pw.time (tickAtOrAfter t 100 (h.arrival + maxAge kind + 1))
    if h.fresh = .fresh ∧ ageOf at' h.arrival < lostAge kind then
      done ((s.advanceTo at').setSig (s.sig.setHdr kind { h with fresh := .stale }))
    else absent s

/-- SIGNAL_LOST (R13): the first trip tick at which the age is the LOST age or more. -/
def execSignalLost (kind : SignalKind) (s : State) : Answer :=
  match s.pw.nextTrip with
  | none => absent s
  | some t =>
    let h := s.sig.hdr kind
    if h.fresh.held then
      done ((s.advanceTo (tickAtOrAfter t 100 (h.arrival + lostAge kind))).setSig
        (s.sig.setHdr kind { h with fresh := .lost }))
    else absent s

/-- STATION_ABSENT (R163, R14): the first trip tick 1,000 ms or more after the station's last STATUS. -/
def execStationAbsent (station : StationNo) (s : State) : Answer :=
  match s.pw.nextTrip with
  | none => absent s
  | some t =>
    let r := s.peer.station station
    if r.state ≠ .absent then
      done ((s.advanceTo (tickAtOrAfter t 100 (r.lastTime + 1000))).markAbsent station)
    else absent s

/-- FAST_FILL_END (R41): the tick that brings the timer to 0. -/
def execFastFillEnd (s : State) : Answer :=
  if s.pw.state = .active ∧ s.trip.fastFill = 1 then done (s.setFastFill 0) else absent s

/-- The combined condition an entry has now, from the pin terms and latches as they stand (log 6). -/
def conditionNow (s : State) (c : WarnCfg) : Bool := combined s s.warn s.warn.callPending c

/-- DEBOUNCE_EXPIRY (R88, R89): a PENDING LEVEL entry with one evaluation left, its gate met and its condition true,
rises. -/
def execDebounceExpiry (warning : Fin 32) (s : State) : Answer :=
  match s.warn.entry warning.val with
  | none => absent s
  | some e =>
    if e.state = .pending ∧ e.count = 1 ∧ e.cfg.isEdge = false ∧ gateMet e.cfg.gate s.pw.state = true ∧
        conditionNow s e.cfg = true then
      done (s.raiseWarning warning.val { e with last := some true })
    else absent s

/-- EDGE_TIMER_EXPIRY (R92): an edge entry without a chime entry, its gate met, reaches the twentieth evaluation. -/
def execEdgeTimerExpiry (warning : Fin 32) (s : State) : Answer :=
  match s.warn.entry warning.val with
  | none => absent s
  | some e =>
    if (e.state = .active ∨ e.state = .acked) ∧ e.edgeTimer = 19 ∧ e.cfg.isEdge = true ∧
        gateMet e.cfg.gate s.pw.state = true ∧ s.chime.holds warning.val = false then
      done (s.setWarn (s.warn.setEntry warning.val
        ({ e with last := some (conditionNow s e.cfg) }).edgeStep))
    else absent s

/-- ROTATION_ADVANCE (R135): the twentieth tick at a rotation position of the LAST TRIP page, while a
warning text covers it too (log 35). -/
def execRotationAdvance (s : State) : Answer :=
  if s.readout.page = .lastTrip ∧ s.readout.rotCount = 19 ∧ s.pw.nextTrip ≠ none then done s.rotationTick
  else absent s

/-! ## The 200 ms tick -/

/-- HEARTBEAT_TICK (R160): an own STATUS in STANDBY, ACTIVE and CRANK. -/
def execHeartbeatTick (s : State) : Answer :=
  match s.pw.nextHeart with
  | none => absent s
  | some t =>
    let s := s.advanceTo t
    let s := s.setPw { s.pw with nextHeart := some (t + 200) }
    if dispatcherRuns s.pw.state then done s.heartbeat else done s

/-! ## The 1 s tick -/

/-- ONE_SECOND_TICK (R140, R117, R37, R96, R100, R33, R172). -/
def execOneSecondTick (s : State) : Answer :=
  let t := s.pw.nextSecond
  let s := s.advanceTo t
  done ((s.setPw { s.pw with nextSecond := t + 1000 }).secondTick)

/-- DAY_STEP (R140): the clock passes midnight and the day counter increases. -/
def execDayStep (s : State) : Answer :=
  if s.readout.hour = 23 ∧ s.readout.minute = 59 ∧ s.readout.second = 59 ∧ s.readout.day < maxDay then
    done s.clockSecond
  else absent s

/-- ENGINE_HOURS_STEP (R117, R118): the running second that brings the seconds count to 360. -/
def execEngineHoursStep (s : State) : Answer :=
  if engineRunning s = true ∧ s.service.seconds = 359 then done s.tenthStep else absent s

/-- UNKNOWN_TIMEOUT (R33): the second that brings the unknown timer to 30. -/
def execUnknownTimeout (s : State) : Answer :=
  if s.acc.unknownTimer = some 29 then done s.unknownSecond else absent s

/-- MARK_EXPIRY (R96): the first 1 s tick at or after the mark's expiry time. -/
def execMarkExpiry (warning : Fin 32) (s : State) : Answer :=
  match s.warn.entry warning.val with
  | none => absent s
  | some e =>
    match e.mark with
    | none => absent s
    | some t =>
      done ((s.advanceTo (tickAtOrAfter s.pw.nextSecond 1000 t)).setWarn
        (s.warn.setEntry warning.val { e with mark := none }))

/-- LAMP_TEST_END (R100): the first 1 s tick at or after the end time. -/
def execLampTestEnd (s : State) : Answer :=
  match s.warn.lampTest with
  | none => absent s
  | some t =>
    done ((s.advanceTo (tickAtOrAfter s.pw.nextSecond 1000 t)).setWarn { s.warn with lampTest := none })

end Sys2Proof.Machine
end

