-- ==== Sys2Proof/Machine/ToneCommands.lean ====
section
/-! DEFINITION. The meanings of the tone generator's own events (R107, R108, R111, R112). -/

namespace Sys2Proof.Machine

/-- SECOND_CLICK (R112): 80 ms after the first click of a refusal pair began. -/
def execSecondClick (s : State) : Answer :=
  match s.chime.click with
  | none => absent s
  | some k =>
    if s.chime.mode = .click ∧ k.refusal = true ∧ k.second = false then
      done ((s.advanceTo (k.start + 80)).setChime { s.chime with click := some { k with second := true } })
    else absent s

/-- CLICK_END (R111, R112): the end of a key click, or of the second click of a refusal pair; the mode returns to IDLE. -/
def execClickEnd (s : State) : Answer :=
  match s.chime.click with
  | none => absent s
  | some k =>
    if s.chime.mode = .click ∧ (k.refusal = true → k.second = true) then
      done ((s.advanceTo k.ends).setChime s.chime.endClick)
    else absent s

/-- PATTERN_STEP_END (R107): a step of a pattern ends and another follows; pattern A starts again after its last. -/
def execPatternStepEnd (s : State) : Answer :=
  match s.chime.mode, s.chime.playingClass, s.chime.step with
  | .pattern, some k, some st =>
    if lastStep k = some st.index then absent s
    else
      let next := nextStep k st.index
      done ((s.advanceTo st.ends).setChime
        { s.chime with step := some { index := next, ends := st.ends + stepLength k next } })
  | _, _, _ => absent s

/-- PATTERN_END (R108, R92, R114): a B or C pattern ends; its entry is removed and reported, and the generator passes to the
new head. -/
def execPatternEnd (s : State) : Answer :=
  match s.chime.mode, s.chime.playing, s.chime.playingClass, s.chime.step with
  | .pattern, some w, some k, some st =>
    if lastStep k = some st.index then
      let s := s.advanceTo st.ends
      let c := { s.chime with queue := chimeWithout s.chime.queue w }
      done ((s.setChime (c.passToHead s.pw.time)).chimeReport w)
    else absent s
  | _, _, _, _ => absent s

end Sys2Proof.Machine
end

