-- ==== Sys2Proof/Machine/Dispatch.lean ====
section
/-! DEFINITION. The effect of every command on everything but the queue: one arm for each row of the table. -/

namespace Sys2Proof.Machine

def exec (i : Instr) (s : State) : Host.Outcome State Fault Refusal :=
  match i with
  | .powerOnReset straps rear cut => Sys2Proof.Machine.execPowerOnReset straps rear cut s
  | .resetPin straps rear cut => Sys2Proof.Machine.execResetPin straps rear cut s
  | .loadEnd wordsRead silent => Sys2Proof.Machine.execLoadEnd wordsRead silent s
  | .stabiliseEnd => Sys2Proof.Machine.execStabiliseEnd s
  | .runOn => Sys2Proof.Machine.execRunOn s
  | .runOff => Sys2Proof.Machine.execRunOff s
  | .startOn => Sys2Proof.Machine.execStartOn s
  | .startOff => Sys2Proof.Machine.execStartOff s
  | .lineWakeEdge => Sys2Proof.Machine.execLineWakeEdge s
  | .keepAliveExpiry => Sys2Proof.Machine.execKeepAliveExpiry s
  | .entryToSleep => Sys2Proof.Machine.execEntryToSleep s
  | .gaugeTick => Sys2Proof.Machine.execGaugeTick s
  | .channelUpdate channel => Sys2Proof.Machine.execChannelUpdate channel s
  | .tripTick sense => Sys2Proof.Machine.execTripTick sense s
  | .signalStale kind => Sys2Proof.Machine.execSignalStale kind s
  | .signalLost kind => Sys2Proof.Machine.execSignalLost kind s
  | .stationAbsent station => Sys2Proof.Machine.execStationAbsent station s
  | .fastFillEnd => Sys2Proof.Machine.execFastFillEnd s
  | .debounceExpiry warning => Sys2Proof.Machine.execDebounceExpiry warning s
  | .edgeTimerExpiry warning => Sys2Proof.Machine.execEdgeTimerExpiry warning s
  | .rotationAdvance => Sys2Proof.Machine.execRotationAdvance s
  | .heartbeatTick => Sys2Proof.Machine.execHeartbeatTick s
  | .oneSecondTick => Sys2Proof.Machine.execOneSecondTick s
  | .dayStep => Sys2Proof.Machine.execDayStep s
  | .engineHoursStep => Sys2Proof.Machine.execEngineHoursStep s
  | .unknownTimeout => Sys2Proof.Machine.execUnknownTimeout s
  | .markExpiry warning => Sys2Proof.Machine.execMarkExpiry warning s
  | .lampTestEnd => Sys2Proof.Machine.execLampTestEnd s
  | .frameReceive bits hold => Sys2Proof.Machine.execFrameReceive bits hold s
  | .holdPauseEnd => Sys2Proof.Machine.execHoldPauseEnd s
  | .frameBegin others => Sys2Proof.Machine.execFrameBegin others s
  | .attemptEnd ack hold => Sys2Proof.Machine.execAttemptEnd ack hold s
  | .lineFaultDetect => Sys2Proof.Machine.execLineFaultDetect s
  | .lineFaultClear => Sys2Proof.Machine.execLineFaultClear s
  | .engine => Sys2Proof.Machine.execEngine s
  | .chassis => Sys2Proof.Machine.execChassis s
  | .body => Sys2Proof.Machine.execBody s
  | .fuelLevel => Sys2Proof.Machine.execFuelLevel s
  | .warnAck => Sys2Proof.Machine.execWarnAck s
  | .serviceReset => Sys2Proof.Machine.execServiceReset s
  | .odoAnnounce => Sys2Proof.Machine.execOdoAnnounce s
  | .clock => Sys2Proof.Machine.execClock s
  | .options => Sys2Proof.Machine.execOptions s
  | .status => Sys2Proof.Machine.execStatus s
  | .tallyRequest => Sys2Proof.Machine.execTallyRequest s
  | .calWrite => Sys2Proof.Machine.execCalWrite s
  | .tallyReport => Sys2Proof.Machine.execTallyReport s
  | .calReply => Sys2Proof.Machine.execCalReply s
  | .unknownKind => Sys2Proof.Machine.execUnknownKind s
  | .lamp => Sys2Proof.Machine.execLamp s
  | .insertRate => Sys2Proof.Machine.execInsertRate s
  | .insertOnce => Sys2Proof.Machine.execInsertOnce s
  | .restart => Sys2Proof.Machine.execRestart s
  | .restartReset => Sys2Proof.Machine.execRestartReset s
  | .pageNext => Sys2Proof.Machine.execPageNext s
  | .pageBack => Sys2Proof.Machine.execPageBack s
  | .tripSelect => Sys2Proof.Machine.execTripSelect s
  | .tripReset => Sys2Proof.Machine.execTripReset s
  | .odoSelect => Sys2Proof.Machine.execOdoSelect s
  | .acknowledge => Sys2Proof.Machine.execAcknowledge s
  | .hour => Sys2Proof.Machine.execHour s
  | .minute => Sys2Proof.Machine.execMinute s
  | .serviceResetKey => Sys2Proof.Machine.execServiceResetKey s
  | .call => Sys2Proof.Machine.execCall s
  | .secondClick => Sys2Proof.Machine.execSecondClick s
  | .clickEnd => Sys2Proof.Machine.execClickEnd s
  | .patternStepEnd => Sys2Proof.Machine.execPatternStepEnd s
  | .patternEnd => Sys2Proof.Machine.execPatternEnd s
  | .writeBegin => Sys2Proof.Machine.execWriteBegin s
  | .writeComplete => Sys2Proof.Machine.execWriteComplete s
  | .lineIdle => Sys2Proof.Machine.execLineIdle s

end Sys2Proof.Machine
end

