-- ==== Sys2Proof/Machine/Timebase.lean ====
section
/-! DEFINITION. What the part does of itself while no command waits: its urgent work, and one millisecond of its timebase
with the events that fall due (R2, R173 to R175, R179; log 2, log 4). -/

namespace Sys2Proof.Machine

/-- The command of a TEST frame; one that names no test is taken by LAMP (log 8). -/
def testCommand (f : Frame) : Instr :=
  if namesTest f then
    match (f.byte 2).toNat with
    | 2 => .insertRate
    | 3 => .insertOnce
    | 4 => .restart
    | _ => .lamp
  else .lamp

/-- The command of a KEY frame; one that names no key is taken by CALL (log 8). -/
def keyCommand (f : Frame) : Instr :=
  if namesKey f then
    match (f.byte 2).toNat with
    | 1 => .pageNext
    | 2 => .pageBack
    | 3 => .tripSelect
    | 4 => .tripReset
    | 5 => .odoSelect
    | 6 => .acknowledge
    | 7 => .hour
    | 8 => .minute
    | 9 => .serviceResetKey
    | _ => .call
  else .call

/-- The command that takes a frame, by its kind (R3). -/
def frameCommand (f : Frame) : Instr :=
  match f.kind.toNat with
  | 1 => .engine
  | 2 => .chassis
  | 3 => keyCommand f
  | 4 => .warnAck
  | 5 => .body
  | 6 => .fuelLevel
  | 7 => .serviceReset
  | 8 => .odoAnnounce
  | 9 => .clock
  | 10 => .options
  | 11 => .status
  | 12 => .tallyRequest
  | 13 => .tallyReport
  | 14 => .calWrite
  | 15 => .calReply
  | 16 => testCommand f
  | _ => .unknownKind

/-- The take of the oldest frame, if the Dispatcher runs (R2). -/
def takeNow (s : State) : Option Instr :=
  if dispatcherRuns s.pw.state then s.line.inbound.head?.map (fun f => frameCommand f.frame) else none

/-- What the part has to do at once, before time passes: a restart (R175), a frame (R2), a write (R179), the entry to SLEEP
(R173). -/
def urgent (s : State) : Option Instr :=
  if s.pw.restartPending ∧ writesDone s = true then some .restartReset
  else match takeNow s with
    | some c => some c
    | none =>
      if writeMayBegin s then some .writeBegin
      else if sleepConditions s then some .entryToSleep
      else none

/-- Whether a time has come. -/
def dueAt (now : Nat) (t : Option Nat) : Bool :=
  match t with
  | some x => decide (x ≤ now)
  | none => false

/-- A command if its time has come. -/
def whenDue (b : Bool) (c : Instr) : List Instr := if b then [c] else []

/-- How many of the first words that LOAD reads were not answered. -/
def unanswered (silent : List Nat) (words : Nat) : Nat := (List.range words).countP (fun a => silent.contains a)

/-- Whether the first words may have been read by a time in ms: a word takes 0.2 ms at least, and 0.6 ms if it is not answered
(R171). -/
def readingPossible (silent : List Nat) (words now : Nat) : Bool :=
  decide (2 * words + 4 * unanswered silent words ≤ 10 * now)

/-- The words read in 250 ms: 416 in any case, of 0.6 ms each at most, and of the others the most up to a number of them that
the times of R171 allow. -/
def wordsByLimit (silent : List Nat) (more : Nat) : Nat :=
  match more with
  | 0 => 416
  | n + 1 => if readingPossible silent (417 + n) 250 then 417 + n else wordsByLimit silent n

/-- The end of LOAD that falls due (R171; log 12). At 250 ms a number of words has been read that is free within the times they
take; before that LOAD ends where all have been read, at a moment that is free from 90 ms on. -/
def dueLoadEnd (s : State) : List Instr :=
  if s.pw.time < 90 then []
  else if 250 ≤ s.pw.time then
    let silent := Config.wordsUnanswered s.idled
    [.loadEnd (wordsByLimit silent (Config.wordsBeyondLeast s.idled % 31)) silent]
  else
    whenDue (Config.readingEnds s.idled && readingPossible (Config.wordsUnanswered s.idled) loadWords s.pw.time)
      (.loadEnd loadWords (Config.wordsUnanswered s.idled))

/-- The ends of LOAD and STABILISE that fall due (R170, R171). -/
def dueStates (s : State) : List Instr :=
  match s.pw.state with
  | .load => dueLoadEnd s
  | .stabilise => whenDue (decide (s.pw.stabiliseEnds ≤ s.pw.time)) .stabiliseEnd
  | _ => []

/-- The ticks that fall due (R174); a trip tick samples the levels last seen on the sense inputs (log 31). -/
def dueTicks (s : State) : List Instr :=
  whenDue (dueAt s.pw.time s.pw.nextGauge) .gaugeTick ++
    whenDue (dueAt s.pw.time s.pw.nextTrip) (.tripTick s.pins.sense) ++
    whenDue (dueAt s.pw.time s.pw.nextHeart) .heartbeatTick ++
    whenDue (decide (s.pw.nextSecond ≤ s.pw.time)) .oneSecondTick

/-- The end of a pattern's step, or of the pattern, that falls due (R107, R108). -/
def duePattern (s : State) : List Instr :=
  match s.chime.mode, s.chime.playingClass, s.chime.step with
  | .pattern, some k, some st =>
    whenDue (decide (st.ends ≤ s.pw.time)) (if lastStep k = some st.index then .patternEnd else .patternStepEnd)
  | _, _, _ => []

/-- The second click or the end of a click sequence that falls due (R111, R112). -/
def dueClick (s : State) : List Instr :=
  match s.chime.mode, s.chime.click with
  | .click, some k =>
    if k.refusal && !k.second then whenDue (decide (k.start + 80 ≤ s.pw.time)) .secondClick
    else whenDue (decide (k.ends ≤ s.pw.time)) .clickEnd
  | _, _ => []

/-- Everything that falls due at the timebase's time, in the order of log 4. -/
def dueCommands (s : State) : List Instr :=
  dueStates s ++ dueTicks s ++ whenDue (dueAt s.pw.time s.line.pause) .holdPauseEnd ++ duePattern s ++ dueClick s

/-- A millisecond of the timebase (R174). -/
def State.millisecond (s : State) : State := s.setPw { s.pw with time := s.pw.time + 1 }

/-- An idle step, counted for the free values (log 12). One command is queued: the part's urgent work, or else the first event
that falls due at this moment; where there is none, a millisecond passes. What falls due is found anew after each command,
so an event that the command before it has undone, such as the end of a pattern that a tick has stopped, does not come
(R104, R108, R109). -/
def idle (s : State) : State :=
  let s := s.setIdled (s.idled + 1)
  match urgent s with
  | some c => s.setPending [c]
  | none =>
    match dueCommands s with
    | c :: _ => s.setPending [c]
    | [] => s.millisecond

end Sys2Proof.Machine
end

