-- ==== Sys2Proof/Safety.lean ====
section
/-! DEFINITION. What counts as a safe run: the laws of the device that every step keeps, each as a property of the state. -/

namespace Sys2Proof.Machine

/-- The serial memory keeps its one canonical form (log 9). -/
def State.memoryLaw (s : State) : Prop := memWf s.mem = true

/-- The key of a transmit entry (R153). -/
def TxEntry.key (e : TxEntry) : BitVec 5 × Option Nat := (e.kind, e.subject)

/-- The transmit queue never holds more than 8 entries, nor two entries with the same kind and subject, and it stands in
order of priority (R153). -/
def State.transmitLaw (s : State) : Prop :=
  s.line.tx.length ≤ 8 ∧ (s.line.tx.map TxEntry.key).Nodup ∧
    s.line.tx.Pairwise (fun x y => priorityOf x.kind ≤ priorityOf y.kind)

/-- The inbound queue never holds more than 16 frames (R155). -/
def State.inboundLaw (s : State) : Prop := s.line.inbound.length ≤ 16

/-- The write queue holds one entry for each key, at most four calibration entries, and at most eight in all (R179). -/
def State.writeLaw (s : State) : Prop :=
  (s.pw.queue.map WriteEntry.key).Nodup ∧ calWaiting s.pw.queue ≤ 4 ∧ s.pw.queue.length ≤ 8

/-- The chime queue holds at most 8 entries, one for each warning, class A first (R102, R103). -/
def State.chimeLaw (s : State) : Prop :=
  s.chime.queue.length ≤ 8 ∧ (s.chime.queue.map ChimeEntry.warning).Nodup ∧
    s.chime.queue.Pairwise (fun x y => x.cls.rank ≤ y.cls.rank)

/-- The tone generator is SILENT outside STANDBY and ACTIVE; there it plays the head's pattern whenever the queue is not
empty, and with an empty queue it is IDLE or clicks (R106, R108, R110). -/
def State.toneLaw (s : State) : Prop :=
  (s.chime.mode = .silent ↔ ¬ (s.pw.state = .standby ∨ s.pw.state = .active)) ∧
    (s.chime.mode ≠ .silent → (s.chime.mode = .pattern ↔ s.chime.queue ≠ [])) ∧
    (s.chime.mode = .pattern →
      s.chime.playing = s.chime.queue.head?.map ChimeEntry.warning ∧ s.chime.step.isSome = true) ∧
    (s.chime.mode ≠ .pattern → s.chime.playing = none ∧ s.chime.step = none) ∧
    (s.chime.mode = .click ↔ s.chime.click.isSome = true)

/-- Every entry of the chime queue is that of a warning in ACTIVE whose audience includes the role, with its class (R97,
R101). -/
def State.foremostLaw (s : State) : Prop :=
  (s.pw.state = .load → s.chime.queue = []) ∧
    ∀ e ∈ s.chime.queue, ∃ w, s.warn.entry e.warning = some w ∧ w.state = .active ∧
      w.cfg.audience.includes s.pw.role = true ∧ w.cfg.cls = e.cls

/-- The lamp states are those their entries and the lamp test call for (R98, R100). -/
def State.lampLaw (s : State) : Prop := s.warn.lamps = (List.range 12).map (lampStateOf s.warn)

/-- The tallies stop at their maxima (R144, R165). -/
def OwnTallies.bounded (t : OwnTallies) : Prop :=
  t.rxCheckErrors ≤ 65535 ∧ t.rxOverflow ≤ 65535 ∧ t.undelivered ≤ 65535 ∧ t.txDropped ≤ 65535 ∧
    t.holdsSeen ≤ 65535 ∧ t.lineFaults ≤ 255 ∧ t.foreignFrames ≤ 65535 ∧ t.distanceGaps ≤ 65535 ∧
    t.fuelGaps ≤ 65535 ∧ t.odometerDisagree ≤ 255 ∧ t.chimesDisplaced ≤ 255

/-- The five tallies of a station record stop at their maxima (R165). -/
def StationTallies.bounded (t : StationTallies) : Prop :=
  t.hits ≤ 65535 ∧ t.misses ≤ 65535 ∧ t.mismatches ≤ 65535 ∧ t.slips ≤ 255 ∧ t.absents ≤ 255

/-- Every live tally lies within its range (R165). -/
def State.tallyLaw (s : State) : Prop :=
  s.tally.bounded ∧ ∀ r ∈ s.peer.stations, r.tallies.bounded

/-- A station record within its ranges; an ABSENT one carries nothing of its last synchronisation (R158, R163). -/
def Station.inRange (r : Station) : Prop :=
  r.hitRun ≤ 1 ∧ r.window.length ≤ 16 ∧ (r.state = .absent → r.last = none ∧ r.hitRun = 0 ∧ r.window = [])

/-- Every station record lies within its ranges (R158). -/
def State.stationLaw (s : State) : Prop := ∀ r ∈ s.peer.stations, r.inRange

/-- No Signal Table entry is FRESH or STALE while the station it is bound to is ABSENT (R164). -/
def State.bindingLaw (s : State) : Prop :=
  ∀ k : SignalKind, (s.sig.hdr k).fresh.held = true →
    ∃ n, (s.sig.hdr k).bound = some n ∧ s.peer.isAbsent n = false

/-- A channel within its ranges: its angle never passes its full scale, and its tick count stays below its divider (R60, R64). -/
def Channel.inRange (c : Channel) : Prop := c.angle ≤ c.cal.fullScale ∧ c.tick < c.cal.divider

/-- Every channel lies within its ranges, and outside LOAD a channel is OFF exactly when its source is (R60, R74). -/
def State.gaugeLaw (s : State) : Prop :=
  ∀ c ∈ s.gauges, c.inRange ∧ (s.pw.state ≠ .load → (c.state = .off ↔ c.cal.source = .off))

/-- The odometer and the metre count within their ranges (R18, R25). -/
def State.odometerLaw (s : State) : Prop := s.acc.odo ≤ 9999999 ∧ s.acc.metres < 100

/-- No service item's odometer baseline exceeds the odometer, and every item's state is the one its measures give now, so an
item is DUE or OVERDUE whenever one of its enabled used measures has reached its interval (R119, R120, R121). -/
def State.serviceLaw (s : State) : Prop :=
  ∀ i ∈ s.service.items, i.odoBase ≤ s.acc.odo ∧ i.state = itemState i s.acc.odo s.readout.day s.service.hours

/-- A trip record within its ranges (R34). -/
def TripRecord.inRange (r : TripRecord) : Prop := r.dist ≤ 9999999 ∧ r.fuel ≤ 999999 ∧ r.elapsed ≤ 359999

/-- Every trip field stays within its maximum, with the pulses and residues that feed it (R18, R34, R50, R178). -/
def State.tripLaw (s : State) : Prop :=
  s.trip.a.inRange ∧ s.trip.b.inRange ∧ s.trip.snapA.inRange ∧ s.trip.snapB.inRange ∧
    s.trip.winDist ≤ 63999 ∧ s.trip.winFuel ≤ 999999 ∧
    (1000 ≤ s.cal.kDist ∧ s.cal.kDist ≤ 16000 ∧ s.acc.distRes < s.cal.kDist) ∧
    (2000 ≤ s.cal.kFuel ∧ s.cal.kFuel ≤ 32000 ∧ s.acc.fuelRes < s.cal.kFuel) ∧
    (s.pw.state = .load → s.acc.distRes = 0 ∧ s.acc.fuelRes = 0)

/-- The level filter within its range (R34, R40). -/
def State.filterLaw (s : State) : Prop := s.trip.f ≤ 65280 ∧ s.trip.fastFill ≤ 30

/-- The clock, the day counter, the rotation, the flash phase and the engine-hour counter within their ranges (R129, R99,
R115). -/
def State.clockLaw (s : State) : Prop :=
  s.readout.hour ≤ 23 ∧ s.readout.minute ≤ 59 ∧ s.readout.second ≤ 59 ∧ s.readout.day ≤ 65535 ∧
    s.readout.rotCount ≤ 19 ∧ s.warn.flash ≤ 9 ∧ s.service.hours ≤ 999999 ∧ s.service.seconds ≤ 359

/-- The keep-alive timer and the return stage exist in STANDBY alone; a reason of R172 ends both, and outside the return
stage the timer runs exactly while no keep-awake reason is present (R172, R173). -/
def State.keepAliveLaw (s : State) : Prop :=
  (s.pw.state ≠ .standby → s.pw.keepAlive = none ∧ s.pw.returning = false) ∧
    (awakeReason s = true → s.pw.keepAlive = none ∧ s.pw.returning = false) ∧
    (s.pw.returning = true → s.pw.keepAlive = none) ∧
    (s.pw.state = .standby → s.pw.returning = false → (s.pw.keepAlive.isSome = true ↔ keepAwake s = false))

/-- What SLEEP leaves: no frame, no pause, no 20, 100 and 200 ms tick, every configured channel PARKED, every warning
QUIET, no chime, blank readouts (R173, R72, R87, R102, R130, R155, R174). -/
def State.sleepLaw (s : State) : Prop :=
  s.pw.state = .sleep →
    s.line.inbound = [] ∧ s.line.holding = false ∧ s.line.pause = none ∧
      s.pw.nextGauge = none ∧ s.pw.nextTrip = none ∧ s.pw.nextHeart = none ∧
      (∀ c ∈ s.gauges, c.cal.source ≠ .off → c.state = .parked) ∧
      (∀ n e, s.warn.entry n = some e → e.state = .quiet) ∧ s.chime.queue = [] ∧
      s.readout.message = List.replicate 10 ' ' ∧ s.readout.brightness = .dark

/-- A pending write carries the words its area has, and a calibration write names a word of the area (R177, R179, R181). -/
def WriteEntry.fits (e : WriteEntry) : Prop :=
  match e.key with
  | .odometer => e.data.length = 2
  | .service => e.data.length ≤ 25
  | .trip => e.data.length = 17
  | .counters => e.data.length = 4
  | .calWord a => a ≤ 383 ∧ e.data.length = 1

/-- Every write lies within the 512 words of the memory (R177): then no command faults. -/
def State.writingLaw (s : State) : Prop :=
  s.service.items.length ≤ 6 ∧ (∀ e ∈ s.pw.queue, e.fits) ∧
    ∀ j, s.pw.writing = some j → j.base + j.data.length ≤ memoryWords

end Sys2Proof.Machine
end

