-- ==== Sys2Proof/Certificates/Slice0/Obligations.lean ====
section
/-! DEFINITION. The statements for the provers: what each command does to the whole state, what the shared operations do,
and the laws of the device that every step keeps. -/

open Sys2Proof Sys2Proof.Machine

/-! ## The step -/

/-- The command at the front of the queue is run on the state with the queue's rest (the host's convention for a block). -/
def Obligations.StepRunsFrontCommand : Prop :=
  ∀ (s : State) (c : Instr) (rest : List Instr), s.pending = c :: rest → step s = exec c { s with pending := rest }

/-- What follows every command at once changes the lamp states, the keep-alive timer and the return stage alone: a lamp is
OFF, FLASH or STEADY exactly as R98 states, and the timer and the return stage follow the reasons of R172 and R173. -/
def Obligations.FinishSettles : Prop :=
  ∀ s : State,
    (∃ lamps timer stage, s.finish =
      { s with warn := { s.warn with lamps := lamps }, pw := { s.pw with keepAlive := timer, returning := stage } }) ∧
    s.finish.warn.lamps.length = 12 ∧
    (∀ lamp, lamp < 12 →
      (s.finish.warn.lamps[lamp]? = some .off ↔ s.warn.lampTest = none ∧
        ∀ n e, s.warn.entry n = some e → e.cfg.lamp = some lamp → e.state ≠ .active ∧ e.state ≠ .acked) ∧
      (s.finish.warn.lamps[lamp]? = some .flash ↔ s.warn.lampTest = none ∧
        ∃ n e, s.warn.entry n = some e ∧ e.cfg.lamp = some lamp ∧ e.cfg.cls = .a ∧ e.state = .active)) ∧
    (s.pw.state ≠ .standby ∨ keepAwake s = true →
      s.finish.pw.keepAlive = none ∧ s.finish.pw.returning = false) ∧
    (s.pw.state = .standby → keepAwake s = false → s.pw.returning = true →
      s.finish.pw.keepAlive = none ∧ s.finish.pw.returning = true) ∧
    (s.pw.state = .standby → keepAwake s = false → s.pw.returning = false →
      s.finish.pw.keepAlive = some (s.pw.keepAlive.getD 0) ∧ s.finish.pw.returning = false)

/-! ## Resets and LOAD -/

/-- The values the spec gives for reset, block by block: the timebase and the power items (R174, R176), the Line Port (R144), the
Signal Table with its signal fields (R4), the Peer Supervisor with its snapshot (R158), the Accumulator (R18), the Trip Computer
(R34), the channels with their coils released (R60, R77), the Warning Unit and its inputs without pull (R78, R82), the Chime
Sequencer (R102), the Service Unit (R115), and the Readout Driver with both readouts blank (R129, R130). -/
def Obligations.ResetValues : Prop :=
  (State.reset.pw.state = .load ∧ State.reset.timebase = 0#32 ∧ State.reset.pw.nextGauge = some 20 ∧
    State.reset.pw.nextTrip = some 100 ∧ State.reset.pw.nextHeart = some 200 ∧ State.reset.pw.nextSecond = 1000 ∧
    State.reset.pw.keepAlive = none ∧ State.reset.pw.returning = false ∧ State.reset.pw.queue = [] ∧
    State.reset.pw.writing = none ∧ State.reset.pw.restartPending = false ∧ State.reset.pw.optionsTaken = false ∧
    State.reset.pw.calFault = false) ∧
  (State.reset.line.tx = [] ∧ State.reset.line.inbound = [] ∧ State.reset.line.holding = false ∧
    State.reset.line.halt = 12 ∧ State.reset.line.resume = 4 ∧ State.reset.line.pause = none ∧
    State.reset.line.fault = false) ∧
  ((∀ k, State.reset.sig.hdr k = { fresh := .none, bound := none, arrival := 0, rebound := false }) ∧
    State.reset.sig.engine = { speed := 0, coolant := 0, oil := 0, fuelCount := 0#16, chargeFault := false,
                               checkEngine := false, oilSwitch := false } ∧
    State.reset.sig.chassis = { distCount := 0#16, fluidLow := false, parkingBrake := false, padWear := false } ∧
    State.reset.sig.body = { door1 := false, door2 := false, door3 := false, door4 := false, partition := false,
                             headlamp := false, bulbOut := false, keyIn := false, beltOpen := false, battery := 0,
                             outside := 0 } ∧
    State.reset.sig.fuel = { sender := 0, senderFault := false }) ∧
  (State.reset.peer.stations.length = 16 ∧
    (∀ n, State.reset.peer.station n =
      { state := .absent, last := none, hitRun := 0, window := [], lastTime := 0, seen := false,
        tallies := { hits := 0, misses := 0, mismatches := 0, slips := 0, absents := 0 } }) ∧
    State.reset.peer.snapshot =
      { stations := List.replicate 16 { hits := 0, misses := 0, mismatches := 0, slips := 0, absents := 0 }
        own := { rxCheckErrors := 0, rxOverflow := 0, undelivered := 0, txDropped := 0, holdsSeen := 0, lineFaults := 0,
                 foreignFrames := 0, distanceGaps := 0, fuelGaps := 0, odometerDisagree := 0, chimesDisplaced := 0 } } ∧
    State.reset.peer.generator = none ∧ State.reset.peer.clash = false ∧ State.reset.peer.report = [] ∧
    State.reset.peer.rate = 0 ∧ State.reset.peer.count = 0 ∧ State.reset.peer.once = false) ∧
  (State.reset.acc =
    { distBase := none, fuelBase := none, distRes := 0, fuelRes := 0, fillDist := 0, fillFuel := 0, ring := [],
      speed := 0, odo := 0, metres := 0, odoUnknown := false, unknownTimer := none, disagree := false,
      unknownCond := false, slot := none }) ∧
  (State.reset.trip.f = 0 ∧ State.reset.trip.received = false ∧ State.reset.trip.fastFill = 0 ∧
    State.reset.trip.winDist = 0 ∧ State.reset.trip.winFuel = 0 ∧
    State.reset.trip.a = { dist := 0, fuel := 0, elapsed := 0 } ∧
    State.reset.trip.b = { dist := 0, fuel := 0, elapsed := 0 } ∧
    State.reset.trip.snapA = { dist := 0, fuel := 0, elapsed := 0 } ∧
    State.reset.trip.snapB = { dist := 0, fuel := 0, elapsed := 0 }) ∧
  (State.reset.gauges.length = 6 ∧ ∀ c ∈ State.reset.gauges, c.angle = 0 ∧ c.state = .resting ∧ c.tick = 0 ∧
    c.coilA.duty = 0 ∧ c.coilB.duty = 0) ∧
  (State.reset.warn.sense.length = 16 ∧ (∀ c ∈ State.reset.warn.sense, c.pull = .none) ∧
    State.reset.warn.pinTerms = 0#16 ∧ State.reset.warn.fuelLow = false ∧ State.reset.warn.coolantHot = false ∧
    State.reset.warn.overspeed = false ∧ State.reset.warn.callPending = false ∧
    State.reset.warn.lamps = List.replicate 12 .off ∧ State.reset.warn.flash = 0 ∧ State.reset.warn.lampTest = none) ∧
  State.reset.chime = { queue := [], mode := .silent, playing := none, step := none, click := none } ∧
  (State.reset.service.items.length = 6 ∧ State.reset.service.hours = 0 ∧ State.reset.service.seconds = 0 ∧
    ∀ i ∈ State.reset.service.items,
      i.cfg = { kmInterval := 0, daysInterval := 0, hoursInterval := 0, kmMargin := 0, daysMargin := 0, hoursMargin := 0,
                text := 0 } ∧
      i.odoBase = 0 ∧ i.dayBase = 0 ∧ i.hoursBase = 0 ∧ i.state = .ok) ∧
  (State.reset.readout.page = .clock ∧ State.reset.readout.tripSel = .a ∧ State.reset.readout.odoSel = .odometer ∧
    State.reset.readout.rotPos = .distance ∧ State.reset.readout.rotCount = 0 ∧ State.reset.readout.lastKey = none ∧
    State.reset.readout.hour = 12 ∧ State.reset.readout.minute = 0 ∧ State.reset.readout.second = 0 ∧
    State.reset.readout.day = 0 ∧ State.reset.readout.unset = true ∧
    State.reset.readout.message = List.replicate 10 ' ' ∧
    State.reset.readout.odoShown = { digits := List.replicate 7 ' ', point := false, sign := .none }) ∧
  State.reset.tally =
    { rxCheckErrors := 0, rxOverflow := 0, undelivered := 0, txDropped := 0, holdsSeen := 0, lineFaults := 0,
      foreignFrames := 0, distanceGaps := 0, fuelGaps := 0, odometerDisagree := 0, chimesDisplaced := 0 }

/-- The laws of Safety hold right after reset. -/
def Obligations.LawsAtReset : Prop :=
  State.reset.memoryLaw ∧ State.reset.transmitLaw ∧ State.reset.inboundLaw ∧ State.reset.writeLaw ∧
    State.reset.chimeLaw ∧ State.reset.toneLaw ∧ State.reset.foremostLaw ∧ State.reset.tallyLaw ∧
    State.reset.stationLaw ∧ State.reset.bindingLaw ∧ State.reset.gaugeLaw ∧ State.reset.odometerLaw ∧
    State.reset.tripLaw ∧ State.reset.filterLaw ∧ State.reset.clockLaw ∧ State.reset.keepAliveLaw ∧
    State.reset.sleepLaw ∧ State.reset.writingLaw ∧ State.reset.lampLaw ∧ State.reset.serviceLaw

/-- The three resets: every item takes its reset value, the straps give station, role and seed, and the pins, the memory
with the words of a cut write, and the waiting commands stay (log 10, log 11). -/
def Obligations.Resets : Prop :=
  ∀ (s : State) (straps : StationNo) (rear : Bool) (cut : Nat),
    let after : Pins → Memory → State := fun pins mem =>
      { State.reset with
        pins := pins, mem := mem, pending := s.pending, idled := s.idled
        pw := { State.reset.pw with station := pins.straps, role := if pins.roleHigh then .rear else .front }
        peer := { State.reset.peer with generator := some (BitVec.ofNat 7 (pins.straps.toNat + 1)) } }
    let pins : Pins := { s.pins with straps := straps, roleHigh := rear }
    (s.pw.writing = none →
      exec (.powerOnReset straps rear cut) s = .next (after pins s.mem) ∧
      exec (.resetPin straps rear cut) s = .next (after pins s.mem)) ∧
    (∀ j, s.pw.writing = some j →
      exec (.powerOnReset straps rear cut) s = .next (after pins (memWriteAll s.mem j.base (j.data.take cut))) ∧
      exec (.resetPin straps rear cut) s = .next (after pins (memWriteAll s.mem j.base (j.data.take cut)))) ∧
    (s.pw.restartPending = true → s.pw.queue = [] → s.pw.writing = none →
      exec .restartReset s = .next (after s.pins s.mem))

/-- LOAD_END: the straps are read where that has not been done since the reset (R159, R171). LOAD ends in every case, 250 ms
after its start where reading was not complete, in the state R170 chooses, with the writes of R29 and R128, the announcement of
R30, the timer of R33, the fast fill, lamp test and tone of R41, R100 and R106, the composition of R130 and the holding state of
R155. -/
def Obligations.LoadEndState : Prop :=
  ∀ (s : State) (wordsRead : Nat) (silent : List Nat), s.pw.state = .load →
    let i := loadImage s.mem wordsRead silent
    let unread : Prop := s.peer.generator = none
    ∃ t, exec (.loadEnd wordsRead silent) s = .next t ∧
      t.pw.state = (if s.pins.run then (if s.pins.start then .crank else .active) else .standby) ∧
      t.pw.time = (if wordsRead < 446 then max s.pw.time 250 else s.pw.time) ∧
      t.trip.fastFill = (if s.pins.run && !s.pins.start then 30 else 0) ∧
      t.warn.lampTest = (if s.pins.run then some (t.pw.time + 3000) else s.warn.lampTest) ∧
      (t.chime.mode = .silent ↔ t.pw.state = .crank) ∧ t.chime.queue = s.chime.queue ∧
      (s.pins.run = true → s.line.tx.length < 8 →
        t.line.tx = (txRequest s.line.tx kindOdoAnnounce none (announceData t.acc)).queue) ∧
      (s.pins.run = false → t.line.tx = s.line.tx) ∧
      (let saved := if i.valid 400 24 then s.pw.queue
                    else writeRequest s.pw.queue .service (serviceWords t.service.items)
       t.pw.queue =
         (if s.pins.run = true ∨ t.acc.odoUnknown = true then saved
          else writeRequest saved .odometer (slotWords t.acc.odo))) ∧
      t.acc.unknownTimer =
        (if s.pins.run = true ∧ t.acc.odoUnknown = true ∧ s.acc.unknownTimer = none then some 0
         else s.acc.unknownTimer) ∧
      t.compose = t ∧
      t.line.holding =
        (if t.line.halt ≤ s.line.inbound.length then true
         else if s.line.inbound.length ≤ t.line.resume then false else s.line.holding) ∧
      (unread →
        t.pw.station = s.pins.straps ∧ t.pw.role = (if s.pins.roleHigh then .rear else .front) ∧
        t.peer.generator = some (BitVec.ofNat 7 (s.pins.straps.toNat + 1))) ∧
      (¬ unread →
        t.pw.station = s.pw.station ∧ t.pw.role = s.pw.role ∧ t.peer.generator = s.peer.generator) ∧
      t.pins = s.pins ∧ t.mem = s.mem ∧ t.sig = s.sig ∧ t.line.inbound = s.line.inbound ∧ t.pending = s.pending ∧
      t.peer.stations = s.peer.stations

/-- LOAD_END: the constants of R178 with their clamps, the levels of R155, and the tank curve (R43), channels (R62), sense inputs
(R78), warning positions (R80) and service items (R116) of a valid CALIBRATION area, each with its clamps; and CAL FAULT with the
built-in values of R43, R63, R78, R81, R116 and R178 where the area is not valid. -/
def Obligations.LoadEndCalibration : Prop :=
  (∀ (s : State) (wordsRead : Nat) (silent : List Nat), s.pw.state = .load →
    let i := loadImage s.mem wordsRead silent
    ∃ t, exec (.loadEnd wordsRead silent) s = .next t ∧
      (t.pw.calFault = true ↔
        ¬ (383 < wordsRead ∧ i.word 383 = 0xFFFF#16 - ((List.range 383).map i.word).foldl (· + ·) 0#16)) ∧
      (t.pw.calFault = false →
        t.cal = { kDist := clampNat 1000 16000 (i.nat 0), kFuel := clampNat 2000 32000 (i.nat 1),
                  economy := clampNat 50 300 (i.nat 2), keepAlive := clampNat 10 600 (i.nat 3), units := unitsOf (i.nat 6),
                  overspeed := if i.nat 7 = 0 then 0 else clampNat 30 250 (i.nat 7),
                  volume := clampNat 1 4 (i.nat 8), clock12 := i.nat 9 == 1, lowLevel := min 300 (i.nat 10),
                  hot := clampNat 80 140 (i.nat 11), oil := min 200 (i.nat 12),
                  watched := if i.nat 13 ≤ 15 then some (BitVec.ofNat 4 (i.nat 13)) else none, tank := tankOf i } ∧
        t.line.halt = clampNat 8 16 (i.nat 4) ∧ t.line.resume = min (t.line.halt - 2) (i.nat 5) ∧
        t.gauges.map Channel.cal = channelsOf i ∧ t.warn.sense = sensesOf i ∧ t.warn.table = positionsOf i ∧
        t.service.items.map ServiceItem.cfg = serviceCfgsOf i) ∧
      (t.pw.calFault = true →
        t.cal = { kDist := 5000, kFuel := 12500, economy := 120, keepAlive := 60, units := .metric, overspeed := 130,
                  volume := 3, clock12 := false, lowLevel := 80, hot := 118, oil := 40, watched := none,
                  tank := [{ sender := 0, volume := 0 }, { sender := 255, volume := 800 }] } ∧
        t.line.halt = 12 ∧ t.line.resume = 4 ∧
        t.gauges.map Channel.cal = builtInChannels ∧ t.warn.sense = builtInSenses ∧ t.warn.table = builtInPositions ∧
        t.service.items.map ServiceItem.cfg = builtInServices) ∧
      t.pw.units = t.cal.units ∧ t.pw.overspeed = t.cal.overspeed ∧ t.pw.volume = t.cal.volume ∧
      t.pw.clock12 = t.cal.clock12 ∧
      (∀ c ∈ t.gauges, c.angle = 0 ∧ c.tick = 0 ∧ c.state = (if c.cal.source = .off then .off else .resting) ∧
        c.coilA.duty = 0 ∧ c.coilB.duty = (if c.cal.source = .off then 0 else 255) ∧
        (c.cal.source ≠ .off → c.coilB.positive = true))) ∧
  (∀ i : Image,
    ((tankOf i).length = clampNat 2 9 (i.nat 160) ∧
      ∀ k p, (tankOf i)[k]? = some p →
        p.volume = min 2000 (i.nat (162 + 2 * k)) ∧ (k = 0 → p.sender = min 255 (i.nat 161)) ∧
        ∀ q, (tankOf i)[k + 1]? = some q → q.sender = max p.sender (min 255 (i.nat (163 + 2 * k)))) ∧
    ((channelsOf i).length = 6 ∧
      ∀ n c, (channelsOf i)[n]? = some c →
        let a := 16 + 24 * n
        let input : Nat → Int := fun b => match c.source with
          | .off => 0
          | .speed => min 2999 (i.nat b)
          | .engineSpeed => min 8160 (i.nat b)
          | .fuelLevel => min 255 (i.nat b)
          | .coolant => max (-40) (min 150 (i.int b))
          | .oil => min 1020 (i.nat b)
          | .battery => min 255 (i.nat b)
        c.source = [Source.off, .speed, .engineSpeed, .fuelLevel, .coolant, .oil, .battery].getD (i.nat a) .off ∧
        c.fullScale = clampNat 40 1080 (i.nat (a + 20)) ∧ c.damping = min 7 (i.nat (a + 21)) ∧
        c.slew = clampNat 1 64 (i.nat (a + 22)) ∧ c.divider = clampNat 1 16 (i.nat (a + 23)) ∧
        c.curve.length = clampNat 2 9 (i.nat (a + 1)) ∧
        ∀ k p, c.curve[k]? = some p →
          p.angle = min 1080 (i.nat (a + 3 + 2 * k)) ∧
          (c.source ≠ .off → (k = 0 → p.input = input (a + 2)) ∧
            ∀ q, c.curve[k + 1]? = some q → q.input = max p.input (input (a + 4 + 2 * k)))) ∧
    ((sensesOf i).length = 16 ∧
      ∀ n c, (sensesOf i)[n]? = some c →
        c.pull = [Pull.none, .up, .down].getD (i.nat (179 + n) / 256) .none ∧
        (c.activeHigh = true ↔ i.nat (179 + n) % 2 = 1)) ∧
    ((positionsOf i).length = 32 ∧
      ∀ n x, (positionsOf i)[n]? = some x →
        let w : Nat → Nat := fun k => i.nat (195 + 4 * n + k)
        let term : Nat → Term := fun b =>
          if b < 64 then .pin (b % 16)
          else if b < 128 then
            .remote ([SignalKind.engine, .chassis, .body, .fuelLevel].getD (b / 16 % 4) .engine) (b % 16)
          else if b < 192 then .computed (b % 64) else .never
        let trigger : Trigger := [Trigger.level, .edgeRise, .edgeFall, .edgeAny].getD (w 1 / 256 % 4) .level
        (w 1 < 32768 → x = none) ∧
        (32768 ≤ w 1 → x = some
          { cfg := { term1 := term (w 0 / 256), term2 := term (w 0 % 256)
                     op := [Operator.none, .and, .or, .andNot].getD (w 1 / 4096 % 8) .none
                     gate := [Gate.any, .run, .off].getD (w 1 / 1024 % 4) .any
                     trigger := trigger, debounce := min 25 (w 1 % 256)
                     cls := if w 2 / 16384 = 0 ∧ trigger = .level then .a else if w 2 / 16384 ≤ 1 then .b else .c
                     audience := [Audience.front, .rear, .both].getD (w 2 / 4096 % 4) .both
                     passAck := w 2 / 2048 % 2 == 1
                     lamp := if w 2 % 256 ≤ 11 then some (w 2 % 256) else none
                     text := min 39 (w 3 % 256) }
            state := .quiet, count := 0, last := none, mark := none, raise := none, edgeTimer := 0 })) ∧
    ((serviceCfgsOf i).length = 6 ∧
      ∀ n c, (serviceCfgsOf i)[n]? = some c →
        let w : Nat → Nat := fun k => i.nat (323 + 7 * n + k)
        let interval : Nat → Nat → Nat → Nat := fun lo hi v => if v = 0 then 0 else clampNat lo hi v
        let margin : Nat → Nat → Nat → Nat := fun top span v =>
          if span = 0 then min top v else min (span - 1) (min top v)
        c.kmInterval = interval 500 50000 (w 0) ∧ c.daysInterval = interval 30 730 (w 1) ∧
        c.hoursInterval = interval 10 1000 (w 2) ∧ c.kmMargin = margin 5000 c.kmInterval (w 3) ∧
        c.daysMargin = margin 60 c.daysInterval (w 4) ∧ c.hoursMargin = margin 50 c.hoursInterval (w 5) ∧
        c.text = min 39 (w 6))) ∧
  builtInChannels =
    [{ source := .speed, curve := [⟨0, 0⟩, ⟨2600, 1080⟩], fullScale := 1080, damping := 2, slew := 16, divider := 1 },
     { source := .engineSpeed, curve := [⟨0, 0⟩, ⟨8000, 1000⟩], fullScale := 1000, damping := 2, slew := 24,
       divider := 1 },
     { source := .fuelLevel, curve := [⟨0, 0⟩, ⟨255, 360⟩], fullScale := 360, damping := 4, slew := 2, divider := 10 },
     { source := .coolant, curve := [⟨40, 0⟩, ⟨70, 170⟩, ⟨110, 190⟩, ⟨130, 360⟩], fullScale := 360, damping := 3,
       slew := 4, divider := 5 },
     { source := .oil, curve := [⟨0, 0⟩, ⟨600, 360⟩], fullScale := 360, damping := 3, slew := 8, divider := 2 },
     { source := .battery, curve := [⟨100, 0⟩, ⟨160, 360⟩], fullScale := 360, damping := 4, slew := 4,
       divider := 10 }] ∧
  builtInSenses = List.replicate 16 { pull := .up, activeHigh := false } ∧
  (let plain : Term → Gate → Nat → Sys2Proof.Machine.Class → Audience → Bool → Option Nat → Nat → WarnCfg :=
     fun term gate debounce cls audience passAck lamp text =>
       { term1 := term, op := .none, term2 := .never, gate := gate, trigger := .level, debounce := debounce, cls := cls,
         audience := audience, passAck := passAck, lamp := lamp, text := text }
   let quiet : WarnCfg → Option Warning := fun c =>
     some { cfg := c, state := .quiet, count := 0, last := none, mark := none, raise := none, edgeTimer := 0 }
   builtInPositions =
     [plain (.computed 10) .any 0 .b .front false (some 11) 0, plain (.computed 2) .run 10 .a .front false (some 0) 1,
      plain (.computed 1) .run 20 .a .both false (some 1) 2, plain (.remote .engine 0) .run 20 .b .front false (some 2) 3,
      plain (.computed 0) .run 25 .c .both true (some 3) 4, plain (.computed 3) .run 10 .b .both true none 5,
      { plain (.remote .body 7) .off 0 .c .front false none 6 with op := .and, term2 := .remote .body 0 },
      plain (.computed 9) .any 0 .c .front false (some 11) 7,
      { plain (.computed 11) .any 0 .b .front false none 8 with trigger := .edgeRise }].map quiet ++
       List.replicate 23 none) ∧
  (let item : Nat → Nat → Nat → Nat → Nat → Nat → Nat → ServiceCfg := fun km days hours km' days' hours' text =>
     { kmInterval := km, daysInterval := days, hoursInterval := hours, kmMargin := km', daysMargin := days',
       hoursMargin := hours', text := text }
   builtInServices =
     [item 15000 365 300 1000 30 25 9, item 30000 730 0 2000 60 0 10, item 0 730 0 0 60 0 11,
      item 40000 0 0 2000 0 0 12, item 50000 730 0 2000 60 0 13, item 20000 365 0 1500 30 0 14])

/-- LOAD_END: the odometer is the largest valid slot and its lowest-numbered place, or 0 and unknown (R27); the engine hours,
the day counter, both trip records, both last-trip snapshots, the range window and the service baselines come from their areas,
or restart where an area is invalid. A saved window of 64,000 m or more is halved until it lies below (log 20). -/
def Obligations.LoadEndRestores : Prop :=
  ∀ (s : State) (wordsRead : Nat) (silent : List Nat), s.pw.state = .load →
    let i := loadImage s.mem wordsRead silent
    ∃ t, exec (.loadEnd wordsRead silent) s = .next t ∧
      ((∀ k, k < 8 → slotOf i k = none) →
        t.acc.odo = 0 ∧ t.acc.odoUnknown = true ∧ t.acc.unknownCond = true ∧ t.acc.slot = none) ∧
      ((∃ k, k < 8 ∧ slotOf i k ≠ none) →
        ∃ k, k < 8 ∧ t.acc.slot = some k ∧ slotOf i k = some t.acc.odo ∧
          (∀ j v, j < 8 → slotOf i j = some v → v ≤ t.acc.odo ∧ (v = t.acc.odo → k ≤ j)) ∧
          t.acc.odoUnknown = false ∧ t.acc.unknownCond = false) ∧
      t.acc.metres = 0 ∧
      t.service.hours = (if i.valid 442 3 then min 999999 (i.nat 442 * 65536 + i.nat 443) else 0) ∧
      t.service.seconds = 0 ∧ t.readout.day = (if i.valid 442 3 then i.nat 444 else 0) ∧
      (i.valid 425 16 = false →
        t.trip.a = TripRecord.zero ∧ t.trip.b = TripRecord.zero ∧ t.trip.snapA = TripRecord.zero ∧
          t.trip.snapB = TripRecord.zero ∧ t.trip.winDist = 0 ∧ t.trip.winFuel = 0) ∧
      (i.valid 425 16 = true →
        let saved : Nat → Nat → Nat → TripRecord := fun a high fuel =>
          { dist := min 9999999 ((high * 65536 + i.nat a) * 10)
            fuel := min 999999 ((fuel * 65536 + i.nat (a + 1)) * 10), elapsed := min 359999 (i.nat (a + 2) * 60) }
        let dist := i.nat 437 * 10
        let fuel := min 999999 ((i.nat 440 / 16 % 2 * 65536 + i.nat 438) * 10)
        t.trip.a = saved 425 (i.nat 439 / 4096) (i.nat 440 / 8 % 2) ∧
        t.trip.b = saved 428 (i.nat 439 / 256 % 16) (i.nat 440 / 4 % 2) ∧
        t.trip.snapA = saved 431 (i.nat 439 / 16 % 16) (i.nat 440 / 2 % 2) ∧
        t.trip.snapB = saved 434 (i.nat 439 % 16) (i.nat 440 % 2) ∧
        ∃ k, k ≤ 4 ∧ dist / 2 ^ k < 64000 ∧ (∀ j, j < k → 64000 ≤ dist / 2 ^ j) ∧
          t.trip.winDist = dist / 2 ^ k ∧ t.trip.winFuel = fuel / 2 ^ k) ∧
      (i.valid 400 24 = true → ∀ n x, t.service.items[n]? = some x →
        x.odoBase = min t.acc.odo (min 9999999 (bitField (i.nat (400 + 4 * n)) 15 8 * 65536 + i.nat (401 + 4 * n))) ∧
        x.dayBase = i.nat (402 + 4 * n) ∧
        x.hoursBase = bitField (i.nat (400 + 4 * n)) 7 0 * 65536 + i.nat (403 + 4 * n)) ∧
      (i.valid 400 24 = false →
        (∀ x ∈ t.service.items, x.odoBase = t.acc.odo ∧ x.dayBase = t.readout.day ∧ x.hoursBase = t.service.hours / 10) ∧
        ∃ e ∈ t.pw.queue, e.key = .service ∧ e.data = serviceWords t.service.items) ∧
      (∀ x ∈ t.service.items, x.state = itemState x t.acc.odo t.readout.day t.service.hours)

/-! ## Changes of power state -/

/-- STABILISE_END: 20 ms after its entry STABILISE goes to STANDBY, to ACTIVE, or through ACTIVE to CRANK, with the work of
R29, R30, R33, R41, R100, R106 and R130. -/
def Obligations.StabiliseEnd : Prop :=
  ∀ s : State, s.pw.state = .stabilise →
    let now := max s.pw.time s.pw.stabiliseEnds
    let timer : Accum :=
      { s.acc with unknownTimer := if s.acc.odoUnknown ∧ s.acc.unknownTimer = none then some 0 else s.acc.unknownTimer }
    let announced : State :=
      { s with pw := { s.pw with time := now }, acc := timer }.sendFrame kindOdoAnnounce none (announceData s.acc)
    let entered : Power → Nat → Chimes → State := fun state fill tone =>
      { announced with pw := { announced.pw with state := state }, trip := { s.trip with fastFill := fill },
                       warn := { s.warn with lampTest := some (now + 3000) }, chime := tone }
    (s.pins.run = false →
      exec .stabiliseEnd s = .next (State.finish (State.compose
        { s with pw := { s.pw with time := now, state := .standby,
                                   queue := if s.acc.odoUnknown then s.pw.queue
                                            else writeRequest s.pw.queue .odometer (slotWords s.acc.odo) },
                 trip := { s.trip with fastFill := 0 },
                 chime := ({ s.chime with mode := .idle }).passToHead now }))) ∧
    (s.pins.run = true → s.pins.start = false →
      exec .stabiliseEnd s = .next (State.finish (State.compose
        (entered .active 30 (({ s.chime with mode := .idle }).passToHead now))))) ∧
    (s.pins.run = true → s.pins.start = true →
      exec .stabiliseEnd s = .next (State.finish (State.compose
        (entered .crank 0 { s.chime with mode := .silent, playing := none, step := none, click := none }))))

/-- RUN_ON and RUN_OFF outside SLEEP: STANDBY goes to ACTIVE (and on to CRANK where START is on), ACTIVE with START off goes to
STANDBY, and elsewhere the level alone changes. -/
def Obligations.RunChanges : Prop :=
  ∀ s : State,
    let timer : Accum :=
      { s.acc with unknownTimer := if s.acc.odoUnknown ∧ s.acc.unknownTimer = none then some 0 else s.acc.unknownTimer }
    let on : Power → Nat → Chimes → State := fun state fill tone =>
      { s with pins := { s.pins with run := true }, pw := { s.pw with state := state }, acc := timer,
               trip := { s.trip with fastFill := fill },
               warn := { s.warn with lampTest := some (s.pw.time + 3000) }, chime := tone }
    (s.pins.run = false → s.pw.state = .standby → s.pins.start = false →
      exec .runOn s = .next (on .active 30 s.chime).compose.finish) ∧
    (s.pins.run = false → s.pw.state = .standby → s.pins.start = true →
      exec .runOn s = .next
        (on .crank 0 { s.chime with mode := .silent, playing := none, step := none, click := none }).compose.finish) ∧
    (s.pins.run = false → s.pw.state ≠ .standby → s.pw.state ≠ .sleep →
      exec .runOn s = .next (State.finish { s with pins := { s.pins with run := true } })) ∧
    (s.pins.run = true → s.pw.state = .active → s.pins.start = false →
      exec .runOff s = .next (State.finish (State.compose
        { s with pins := { s.pins with run := false },
                 pw := { s.pw with state := .standby,
                                   queue := if s.acc.odoUnknown then s.pw.queue
                                            else writeRequest s.pw.queue .odometer (slotWords s.acc.odo) },
                 trip := { s.trip with fastFill := 0 } }))) ∧
    (s.pins.run = true → ¬ (s.pw.state = .active ∧ s.pins.start = false) →
      exec .runOff s = .next (State.finish { s with pins := { s.pins with run := false } }))

/-- START_ON and START_OFF outside SLEEP: ACTIVE goes to CRANK, where the tone is silent and the queue kept; CRANK ends in
ACTIVE or STANDBY, where the head's pattern starts anew (R110); elsewhere the level alone changes. -/
def Obligations.StartChanges : Prop :=
  ∀ s : State,
    let tone : Chimes := ({ s.chime with mode := .idle }).passToHead s.pw.time
    (s.pins.start = false → s.pw.state = .active →
      exec .startOn s = .next (State.finish (State.compose
        { s with pins := { s.pins with start := true }, pw := { s.pw with state := .crank },
                 trip := { s.trip with fastFill := 0 },
                 chime := { s.chime with mode := .silent, playing := none, step := none, click := none } }))) ∧
    (s.pins.start = false → s.pw.state ≠ .active → s.pw.state ≠ .sleep →
      exec .startOn s = .next (State.finish { s with pins := { s.pins with start := true } })) ∧
    (s.pins.start = true → s.pw.state = .crank → s.pins.run = true →
      exec .startOff s = .next (State.finish (State.compose
        { s with pins := { s.pins with start := false }, pw := { s.pw with state := .active }, chime := tone }))) ∧
    (s.pins.start = true → s.pw.state = .crank → s.pins.run = false →
      exec .startOff s = .next (State.finish (State.compose
        { s with pins := { s.pins with start := false },
                 pw := { s.pw with state := .standby,
                                   queue := if s.acc.odoUnknown then s.pw.queue
                                            else writeRequest s.pw.queue .odometer (slotWords s.acc.odo) },
                 trip := { s.trip with fastFill := 0 }, chime := tone }))) ∧
    (s.pins.start = true → s.pw.state ≠ .crank →
      exec .startOff s = .next (State.finish { s with pins := { s.pins with start := false } }))

/-- The wake from SLEEP, by RUN, START or a dominant edge: the ticks begin again, STABILISE runs 20 ms, FRESH and STALE entries
become LOST, the records ABSENT uncounted, the ring empty and the speed 0, and the tick counts 0. -/
def Obligations.Wake : Prop :=
  ∀ s : State, s.pw.state = .sleep →
    let lost : SigHeader → SigHeader := fun h =>
      { h with fresh := if h.fresh = .fresh ∨ h.fresh = .stale then .lost else h.fresh }
    let woken : Pins → State := fun pins =>
      { s with
        pins := pins
        pw := { s.pw with state := .stabilise, nextGauge := some (s.pw.time + 20), nextTrip := some (s.pw.time + 100),
                          nextHeart := some (s.pw.time + 200), stabiliseEnds := s.pw.time + 20 }
        line := { s.line with rx := .waitIdle, idle := false }
        sig := { s.sig with engineHdr := lost s.sig.engineHdr, chassisHdr := lost s.sig.chassisHdr,
                            bodyHdr := lost s.sig.bodyHdr, fuelHdr := lost s.sig.fuelHdr }
        peer := { s.peer with
          stations := s.peer.stations.map (fun r =>
            if r.state = .absent then r
            else { r with state := .absent, last := none, hitRun := 0, window := [] }) }
        acc := { s.acc with ring := [], fillDist := 0, fillFuel := 0, speed := 0 }
        gauges := s.gauges.map (fun c => { c with tick := 0 })
        readout := { s.readout with
          message := List.replicate 10 ' '
          odoShown := { digits := List.replicate 7 ' ', point := false, sign := .none }, brightness := .dark } }
    exec .lineWakeEdge s = .next (woken s.pins).finish ∧
    (s.pins.run = false → exec .runOn s = .next (woken { s.pins with run := true }).finish) ∧
    (s.pins.start = false → exec .startOn s = .next (woken { s.pins with start := true }).finish)

/-- KEEP_ALIVE_EXPIRY: the timer stops and the return stage begins, with TRIP, COUNTERS and, while odometer-unknown is clear,
ODOMETER writes queued. That this share of the 1 s tick is a command of its own, enabled one count below the period, is the
MODEL'S CHOICE (log 6). ENTRY_TO_SLEEP: with every channel OFF or returned to 0 and both queues empty, the return stage ends in
SLEEP, and the blocks act as R1, R72, R87, R102, R130, R155 and R174 state. R77 gives a released coil no polarity; that it holds
positive is the MODEL'S CHOICE (log 34). -/
def Obligations.ReturnToSleep : Prop :=
  (∀ (s : State) (n : Nat), s.pw.state = .standby → s.pw.keepAlive = some n → s.cal.keepAlive ≤ n + 1 →
      let saved := writeRequest (writeRequest s.pw.queue .trip (tripWords s.trip)) .counters
        (countersWords s.service.hours s.readout.day)
      exec .keepAliveExpiry s = .next (State.finish
        { s with pw := { s.pw with
            returning := true, keepAlive := none
            queue := if s.acc.odoUnknown then saved else writeRequest saved .odometer (slotWords s.acc.odo) } })) ∧
  (∀ s : State, s.pw.state = .standby → s.pw.returning = true →
      (∀ c ∈ s.gauges, c.state = .off ∨ (c.state = .returning ∧ c.angle = 0)) →
      s.pw.queue = [] → s.pw.writing = none → s.line.tx = [] →
      exec .entryToSleep s = .next (State.finish
        { s with
          pw := { s.pw with state := .sleep, nextGauge := none, nextTrip := none, nextHeart := none, keepAlive := none,
                            returning := false }
          line := { s.line with inbound := [], holding := false, pause := none, rx := .waitIdle }
          gauges := s.gauges.map (fun c =>
            if c.cal.source = .off then c
            else { c with state := .parked, coilA := { duty := 0, positive := true },
                          coilB := { duty := 0, positive := true } })
          warn := { s.warn with
            table := s.warn.table.map (Option.map (fun e =>
              { cfg := e.cfg, state := .quiet, count := 0, last := none, mark := none, raise := none, edgeTimer := 0 }))
            fuelLow := false, coolantHot := false, overspeed := false, callPending := false, lampTest := none }
          chime := { queue := [], mode := .silent, playing := none, step := none, click := none }
          readout := { s.readout with
            message := List.replicate 10 ' '
            odoShown := { digits := List.replicate 7 ' ', point := false, sign := .none }, brightness := .dark } }))

/-! ## Ticks and gauges -/

/-- GAUGE_TICK: in STABILISE, STANDBY and ACTIVE every channel that is not OFF counts one tick, and one whose count then equals its
divider sets it to 0 and makes its update in that tick; in LOAD and CRANK no channel changes (R64, R73). -/
def Obligations.GaugeTick : Prop :=
  ∀ (s : State) (t : Nat), s.pw.nextGauge = some t →
    let ticked : State := { s with pw := { s.pw with time := max s.pw.time t, nextGauge := some (t + 20) } }
    (s.pw.state = .stabilise ∨ s.pw.state = .standby ∨ s.pw.state = .active →
      exec .gaugeTick s = .next (State.finish { ticked with
        gauges := s.gauges.map (fun c =>
          if c.state = .off then c
          else if c.tick + 1 < c.cal.divider then { c with tick := c.tick + 1 }
          else s.updateChannel { c with tick := 0 }) })) ∧
    (¬ (s.pw.state = .stabilise ∨ s.pw.state = .standby ∨ s.pw.state = .active) →
      exec .gaugeTick s = .next ticked.finish)

/-- CHANNEL_UPDATE, one channel's share of the gauge tick that would complete its count, alone and at no tick of its own (MODEL'S
CHOICE, log 5, log 6): the count is set to 0, the channel decides its state (R65), moves toward its target (R66 to R70), and its
coils take the duties and polarities of its angle (R76); no other channel and nothing else changes. A channel whose source is OFF
makes none (R74). The update of a gauge tick is the same one. -/
def Obligations.ChannelUpdate : Prop :=
  ∀ (s : State) (n : Fin 6) (c : Channel), s.gauges[n.val]? = some c →
    (s.pw.state = .stabilise ∨ s.pw.state = .standby ∨ s.pw.state = .active) →
    (c.cal.source = .off → exec (.channelUpdate n) s = .next s) ∧
    (c.state ≠ .off → c.cal.source ≠ .off → c.cal.divider ≤ c.tick + 1 →
    ∃ c', exec (.channelUpdate n) s = .next (State.finish { s with gauges := s.gauges.set n.val c' }) ∧
      s.updateChannel { c with tick := 0 } = c' ∧ c'.cal = c.cal ∧ c'.tick = 0 ∧
      (s.pw.returning = true → c'.state = .returning ∧ c'.angle = moveAngle c.angle 0 0 64) ∧
      (s.pw.returning = false → sourceFreshness s c.cal.source = .fresh →
        c'.state = .tracking ∧
        c'.angle = moveAngle c.angle (min (curveAngle c.cal.curve (sourceValue s c.cal.source)).toNat c.cal.fullScale)
          c.cal.damping c.cal.slew) ∧
      (s.pw.returning = false → sourceFreshness s c.cal.source = .stale → c'.state = .holding ∧ c'.angle = c.angle) ∧
      (s.pw.returning = false → sourceFreshness s c.cal.source = .none ∨ sourceFreshness s c.cal.source = .lost →
        c'.state = .resting ∧ c'.angle = moveAngle c.angle 0 c.cal.damping c.cal.slew) ∧
      (let i := c'.angle % 360 * 64 / 360
       (c'.angle < 360 → c'.coilA = ⟨sineEntry i, true⟩ ∧ c'.coilB = ⟨sineEntry (64 - i), true⟩) ∧
       (360 ≤ c'.angle → c'.angle < 720 → c'.coilA = ⟨sineEntry (64 - i), true⟩ ∧ c'.coilB = ⟨sineEntry i, false⟩) ∧
       (720 ≤ c'.angle → c'.angle < 1080 → c'.coilA = ⟨sineEntry i, false⟩ ∧ c'.coilB = ⟨sineEntry (64 - i), false⟩) ∧
       (c'.angle = 1080 → c'.coilA = ⟨sineEntry 64, false⟩ ∧ c'.coilB = ⟨sineEntry 0, true⟩)))

/-- One movement of a pointer (R67): by the error over 2^k, at least one quarter-degree, at most the slew limit, toward the
target and never past it. A gauge curve and the tank curve, looked up (R44, R66): flat outside the points, and between two
points on the segment from the last point at or below the value, the quotient rounded down. A value at or below the first point
gives the first point, where the second has the same input too: the cases of R44 and R66 are taken in the order they are written,
where other words of R44 and R62 take the later point (DEDUCED, log 19). -/
def Obligations.MovementAndCurves : Prop :=
  (∀ angle target damping slew : Nat,
      let err : Int := (target : Int) - angle
      let mag : Nat :=
        if slew < (if err ≠ 0 ∧ err.natAbs / 2 ^ damping = 0 then 1 else err.natAbs / 2 ^ damping) then slew
        else (if err ≠ 0 ∧ err.natAbs / 2 ^ damping = 0 then 1 else err.natAbs / 2 ^ damping)
      (moveAngle angle target damping slew : Int) = angle + err.sign * mag ∧
      (angle ≤ target → angle ≤ moveAngle angle target damping slew ∧ moveAngle angle target damping slew ≤ target) ∧
      (target ≤ angle → target ≤ moveAngle angle target damping slew ∧ moveAngle angle target damping slew ≤ angle) ∧
      ((moveAngle angle target damping slew : Int) - angle).natAbs ≤ slew) ∧
  ((∀ (p : CurvePoint) (rest : List CurvePoint) (x : Int), (p :: rest).Pairwise (fun a b => a.input ≤ b.input) →
      (x ≤ p.input → curveAngle (p :: rest) x = p.angle) ∧
      (∀ (l u : CurvePoint) (before after : List CurvePoint), p :: rest = before ++ l :: u :: after →
        l.input ≤ x → x < u.input → p.input < x →
        curveAngle (p :: rest) x = l.angle + (x - l.input) * ((u.angle : Int) - l.angle) / (u.input - l.input)) ∧
      (∀ (l : CurvePoint) (before : List CurvePoint), p :: rest = before ++ [l] → l.input ≤ x → p.input < x →
        curveAngle (p :: rest) x = l.angle)) ∧
    (∀ (p : TankPoint) (rest : List TankPoint) (x : Nat), (p :: rest).Pairwise (fun a b => a.sender ≤ b.sender) →
      (x ≤ p.sender → tankVolume (p :: rest) x = p.volume) ∧
      (∀ (l u : TankPoint) (before after : List TankPoint), p :: rest = before ++ l :: u :: after →
        l.sender ≤ x → x < u.sender → p.sender < x →
        (tankVolume (p :: rest) x : Int) =
          l.volume + ((x : Int) - l.sender) * ((u.volume : Int) - l.volume) / ((u.sender : Int) - l.sender)) ∧
      (∀ (l : TankPoint) (before : List TankPoint), p :: rest = before ++ [l] → l.sender ≤ x → p.sender < x →
        tankVolume (p :: rest) x = l.volume))) ∧
  (∀ (c : ChannelCal) (x : Int), trackingTarget c x = min (curveAngle c.curve x).toNat c.fullScale) ∧
  (∀ (c : Cal) (t : Trip), t.received = true → fuelRemaining c t = some (tankVolume c.tank (t.f / 256) * 100)) ∧
  tankVolume [{ sender := 96, volume := 400 }, { sender := 128, volume := 520 }] 100 = 415 ∧
  tankVolume [{ sender := 0, volume := 650 }, { sender := 40, volume := 600 }] 3 = 646 ∧
  curveAngle [{ input := 70, angle := 170 }, { input := 110, angle := 190 }] 90 = 180

/-- TRIP_TICK: the filling slot is closed and speed found (R23, R24), silent stations become ABSENT (R163), the entries age
(R13, R14), the flash phase advances (R99), and the fast-fill timer runs in ACTIVE (R41). In STANDBY and ACTIVE an evaluation
follows (R87): the inputs are sampled, the latches moved and call-pending cleared (R79, R84, R86), and then the 32 positions are
treated in ascending order by EntryAtEvaluation's operation, each with the combined condition of the terms as that sample left
them (R83); no other state runs one. The rotation of the LAST TRIP page advances, while a warning text covers the page too: R135
says so, and R131 does not agree (DEDUCED, log 35). The readouts show the state as it then stands (R130). That the evaluation reads the speed,
the ages and the stations of the same tick is the model's order of the blocks (MODEL'S CHOICE, log 7); the levels of the inputs
come with the command (MODEL'S CHOICE, log 31). -/
def Obligations.TripTick : Prop :=
  ∀ (s : State) (sense : BitVec 16) (t : Nat), s.pw.nextTrip = some t →
    let now := max s.pw.time t
    let ring := ({ dist := s.acc.fillDist, fuel := s.acc.fillFuel } :: s.acc.ring).take 20
    let quiet : StationNo → Bool := fun n =>
      (s.peer.station n).state != .absent && decide (1000 ≤ now - (s.peer.station n).lastTime)
    ∃ u, exec (.tripTick sense) s = .next u ∧
      u.pw.time = now ∧ u.pw.nextTrip = some (t + 100) ∧ u.pw.state = s.pw.state ∧
      u.pins = { s.pins with sense := sense } ∧
      u.acc = { s.acc with ring := ring, fillDist := 0, fillFuel := 0
                           speed := min 2999 (((ring.take 5).map Slot.dist).sum * 72000 / s.cal.kDist) } ∧
      (∀ n, u.peer.station n =
        if quiet n then
          { s.peer.station n with
            state := .absent, last := none, hitRun := 0, window := []
            tallies := { (s.peer.station n).tallies with
              absents := min ((s.peer.station n).tallies.absents + 1) 255 } }
        else s.peer.station n) ∧
      (∀ k, u.sig.hdr k = { s.sig.hdr k with
        fresh :=
          if (s.sig.hdr k).fresh = .fresh ∨ (s.sig.hdr k).fresh = .stale then
            if (∃ n, (s.sig.hdr k).bound = some n ∧ quiet n = true) ∨ lostAge k ≤ now - (s.sig.hdr k).arrival then .lost
            else if maxAge k < now - (s.sig.hdr k).arrival then .stale
            else (s.sig.hdr k).fresh
          else (s.sig.hdr k).fresh }) ∧
      u.sig.engine = s.sig.engine ∧ u.sig.chassis = s.sig.chassis ∧ u.sig.body = s.sig.body ∧ u.sig.fuel = s.sig.fuel ∧
      u.trip = { s.trip with fastFill := if s.pw.state = .active then s.trip.fastFill - 1 else s.trip.fastFill } ∧
      u.warn.flash = (s.warn.flash + 1) % 10 ∧
      (s.pw.state = .standby ∨ s.pw.state = .active →
        (∀ n c, n < 16 → s.warn.sense[n]? = some c → u.warn.pinTerms.getLsbD n = (sense.getLsbD n == c.activeHigh)) ∧
        u.warn.callPending = false ∧ u.warn.fuelLow = fuelLowNext s.cal s.trip s.warn.fuelLow ∧
        u.warn.coolantHot = coolantHotNext s.cal u.sig s.warn.coolantHot ∧
        u.warn.overspeed = overspeedNext s.pw.overspeed u.acc.speed u.sig s.warn.overspeed ∧
        (let sampled : State :=
           { s with
             pins := u.pins, acc := u.acc, sig := u.sig, peer := u.peer
             pw := { s.pw with time := now, nextTrip := some (t + 100) }
             warn := { s.warn with
               pinTerms := u.warn.pinTerms, flash := u.warn.flash, fuelLow := u.warn.fuelLow,
               coolantHot := u.warn.coolantHot, overspeed := u.warn.overspeed, callPending := false } }
         let walked := (List.range 32).foldl (fun v n => match v.warn.entry n with
           | none => v
           | some e => v.evalEntry n e (combined sampled sampled.warn s.warn.callPending e.cfg)) sampled
         u.warn = { walked.warn with lamps := u.warn.lamps } ∧ u.chime = walked.chime ∧ u.tally = walked.tally)) ∧
      (¬ (s.pw.state = .standby ∨ s.pw.state = .active) →
        u.warn = { s.warn with flash := (s.warn.flash + 1) % 10, lamps := u.warn.lamps } ∧ u.chime = s.chime) ∧
      (s.pw.state = .standby ∨ s.pw.state = .active ∨ s.pw.state = .crank → u.compose = u) ∧
      u.readout.page = s.readout.page ∧ u.readout.tripSel = s.readout.tripSel ∧
      (u.readout.rotCount, u.readout.rotPos) =
        (if s.readout.page = .lastTrip then
          (if 20 ≤ s.readout.rotCount + 1 then (0, nextRotation s.readout.rotPos)
           else (s.readout.rotCount + 1, s.readout.rotPos))
         else (s.readout.rotCount, s.readout.rotPos)) ∧
      u.mem = s.mem ∧ u.cal = s.cal ∧ u.line = s.line ∧ u.gauges = s.gauges ∧ u.service = s.service ∧
      u.pending = s.pending ∧ u.tally = { s.tally with chimesDisplaced := u.tally.chimesDisplaced }

/-- One entry at an evaluation (R87 to R92): forced to QUIET where its gate is not met; a LEVEL entry moved by R88 and R90; an
edge entry by R91 and R92; its last condition takes the combined condition. A rise (R89) goes to ACKED by a live mark, else to
ACTIVE with the next raise order and, for its role, a chime offer. The combined condition (R83) of the two terms, and the value of
each term: a pin's sample (R79), a remote bit (R16), a computed term (R84 to R86), and no term. -/
def Obligations.EntryAtEvaluation : Prop :=
  ∀ (s : State) (n : Nat) (e : Warning) (cond : Bool),
    let seen : Warning := { e with last := some cond }
    let keep : Warning → State := fun w => { s with warn := s.warn.setEntry n w }
    let hush : Warning → State := fun w =>
      { s with warn := s.warn.setEntry n w, chime := s.chime.remove s.pw.time n }
    (gateMet e.cfg.gate s.pw.state = false →
      s.evalEntry n e cond =
        if e.state = .quiet then keep seen else hush { seen with state := .quiet, count := 0, edgeTimer := 0 }) ∧
    (gateMet e.cfg.gate s.pw.state = true → e.cfg.trigger = .level →
      (e.state = .quiet → cond = false → s.evalEntry n e cond = keep seen) ∧
      (e.state = .quiet → cond = true → e.cfg.debounce = 0 → s.evalEntry n e cond = s.raiseWarning n seen) ∧
      (e.state = .quiet → cond = true → e.cfg.debounce ≠ 0 →
        s.evalEntry n e cond = keep { seen with state := .pending, count := e.cfg.debounce }) ∧
      (e.state = .pending → cond = true → e.count ≤ 1 → s.evalEntry n e cond = s.raiseWarning n seen) ∧
      (e.state = .pending → cond = true → 1 < e.count →
        s.evalEntry n e cond = keep { seen with count := e.count - 1 }) ∧
      (e.state = .pending → cond = false → s.evalEntry n e cond = keep { seen with state := .quiet, count := 0 }) ∧
      (e.state = .active ∨ e.state = .acked → cond = true → s.evalEntry n e cond = keep seen) ∧
      (e.state = .active → cond = false → s.evalEntry n e cond = hush { seen with state := .quiet }) ∧
      (e.state = .acked → cond = false → s.evalEntry n e cond = keep { seen with state := .quiet })) ∧
    (gateMet e.cfg.gate s.pw.state = true → e.cfg.trigger ≠ .level →
      (e.state = .quiet → isEdgeOf e.cfg.trigger e.last cond = true → s.evalEntry n e cond = s.raiseWarning n seen) ∧
      (e.state = .quiet → isEdgeOf e.cfg.trigger e.last cond = false → s.evalEntry n e cond = keep seen) ∧
      (e.state = .active ∨ e.state = .acked → s.chime.holds n = true → s.evalEntry n e cond = keep seen) ∧
      (e.state = .active ∨ e.state = .acked → s.chime.holds n = false → e.edgeTimer + 1 < 20 →
        s.evalEntry n e cond = keep { seen with edgeTimer := e.edgeTimer + 1 }) ∧
      (e.state = .active ∨ e.state = .acked → s.chime.holds n = false → 20 ≤ e.edgeTimer + 1 →
        s.evalEntry n e cond = keep { seen with state := .quiet, edgeTimer := 20 })) ∧
    (∀ w : Warning,
      let up : Warning := { w with count := 0, edgeTimer := 0 }
      let raised : Warning := { up with state := .active, raise := some s.warn.nextRaise }
      let counted : State :=
        { s with warn := { s.warn.setEntry n raised with nextRaise := s.warn.nextRaise + 1 } }
      (w.mark ≠ none → s.raiseWarning n w = keep { up with state := .acked, mark := none }) ∧
      (w.mark = none → w.cfg.audience.includes s.pw.role = false → s.raiseWarning n w = counted) ∧
      (w.mark = none → w.cfg.audience.includes s.pw.role = true →
        s.raiseWarning n w = counted.offerChime n w.cfg.cls)) ∧
    (isEdgeOf .edgeRise e.last cond = true ↔ e.last = some false ∧ cond = true) ∧
    (isEdgeOf .edgeFall e.last cond = true ↔ e.last = some true ∧ cond = false) ∧
    (isEdgeOf .edgeAny e.last cond = true ↔ e.last = some (!cond)) ∧
    (∀ (w : WarnUnit) (call : Bool) (c : WarnCfg),
      let value : Term → Bool := termValue s w call
      let flags : SignalKind → List Bool := fun k => match k with
        | .engine => [s.sig.engine.chargeFault, s.sig.engine.checkEngine, s.sig.engine.oilSwitch]
        | .chassis => [s.sig.chassis.fluidLow, s.sig.chassis.parkingBrake, s.sig.chassis.padWear]
        | .body => [s.sig.body.door1, s.sig.body.door2, s.sig.body.door3, s.sig.body.door4, s.sig.body.partition,
                    s.sig.body.headlamp, s.sig.body.bulbOut, s.sig.body.keyIn, s.sig.body.beltOpen]
        | .fuelLevel => [s.sig.fuel.senderFault]
      let computed : List Prop :=
        [w.fuelLow = true, w.coolantHot = true,
         s.sig.engineHdr.fresh = .fresh ∧ 400 ≤ s.sig.engine.speed ∧ s.sig.engine.oil < s.cal.oil, w.overspeed = true,
         ∃ i ∈ s.service.items, i.state = .soon, ∃ i ∈ s.service.items, i.state = .due ∨ i.state = .overdue,
         ∃ n, s.cal.watched = some n ∧ (s.peer.station n).state = .absent, ∃ r ∈ s.peer.stations, r.state = .slip,
         s.line.fault = true, s.acc.unknownCond = true ∨ s.acc.disagree = true, s.pw.calFault = true, call = true,
         s.readout.unset = true, s.peer.clash = true]
      (c.op = .none → combined s w call c = value c.term1) ∧
      (c.op = .and → combined s w call c = (value c.term1 && value c.term2)) ∧
      (c.op = .or → combined s w call c = (value c.term1 || value c.term2)) ∧
      (c.op = .andNot → combined s w call c = (value c.term1 && !value c.term2)) ∧
      (∀ pin, value (.pin pin) = w.pinTerms.getLsbD pin) ∧
      (∀ k bit, value (.remote k bit) = true ↔
        ((s.sig.hdr k).fresh = .fresh ∨ (s.sig.hdr k).fresh = .stale) ∧ (flags k).getD bit false = true) ∧
      (∀ code, value (.computed code) = true ↔ computed.getD code False) ∧
      value .never = false)

/-- DEBOUNCE_EXPIRY raises a PENDING LEVEL entry, to ACKED by a live mark and else to ACTIVE with the next raise order and, for
its role, a chime offer (R88, R89); EDGE_TIMER_EXPIRY returns an edge entry to QUIET at 20 (R92). Each is done alone, with the
condition of the terms as they stand (MODEL'S CHOICE, log 6). -/
def Obligations.WarningExpiries : Prop :=
  ∀ (s : State) (n : Fin 32) (e : Warning), s.warn.entry n.val = some e →
    gateMet e.cfg.gate s.pw.state = true →
    (e.state = .pending → e.count = 1 → e.cfg.trigger = .level → conditionNow s e.cfg = true →
      let risen : Warning := { e with last := some true, count := 0, edgeTimer := 0 }
      let raised : State :=
        { s with warn := { s.warn.setEntry n.val { risen with state := .active, raise := some s.warn.nextRaise } with
                           nextRaise := s.warn.nextRaise + 1 } }
      (∀ m, e.mark = some m →
        exec (.debounceExpiry n) s = .next (State.finish
          { s with warn := s.warn.setEntry n.val { risen with state := .acked, mark := none } })) ∧
      (e.mark = none → e.cfg.audience.includes s.pw.role = true →
        exec (.debounceExpiry n) s = .next (raised.offerChime n.val e.cfg.cls).finish) ∧
      (e.mark = none → e.cfg.audience.includes s.pw.role = false →
        exec (.debounceExpiry n) s = .next raised.finish)) ∧
    (e.state = .active ∨ e.state = .acked → e.edgeTimer = 19 → e.cfg.trigger ≠ .level → s.chime.holds n.val = false →
      exec (.edgeTimerExpiry n) s = .next (State.finish
        { s with
          warn := s.warn.setEntry n.val
            { e with last := some (conditionNow s e.cfg), state := .quiet, edgeTimer := 20 } }))

/-- SIGNAL_STALE, SIGNAL_LOST and STATION_ABSENT: at the first trip tick whose age allows it the entry's freshness changes and
nothing else of it (R13); a silent station becomes ABSENT with its entries LOST (R163, R14). Each comes alone, at the time of
that tick (MODEL'S CHOICE, log 6). The timebase count is 32 bits, and an age below 2^32 ms is the difference of two counts,
whatever wraps in between (R174). -/
def Obligations.AgeingRows : Prop :=
  (∀ s : State, s.timebase.toNat = s.pw.time % 2 ^ 32) ∧
  (∀ now arrival : Nat, arrival ≤ now → now - arrival < 2 ^ 32 →
    (timebaseCount now - timebaseCount arrival).toNat = now - arrival) ∧
  ∀ (s : State) (t : Nat), s.pw.nextTrip = some t →
    (∀ k : SignalKind,
      let at' := max s.pw.time (tickAtOrAfter t 100 ((s.sig.hdr k).arrival + maxAge k + 1))
      (s.sig.hdr k).fresh = .fresh → at' - (s.sig.hdr k).arrival < lostAge k →
        exec (.signalStale k) s = .next (State.finish
          { s with pw := { s.pw with time := at' }, sig := s.sig.setHdr k { s.sig.hdr k with fresh := .stale } })) ∧
    (∀ k : SignalKind,
      let at' := max s.pw.time (tickAtOrAfter t 100 ((s.sig.hdr k).arrival + lostAge k))
      (s.sig.hdr k).fresh = .fresh ∨ (s.sig.hdr k).fresh = .stale →
        exec (.signalLost k) s = .next (State.finish
          { s with pw := { s.pw with time := at' }, sig := s.sig.setHdr k { s.sig.hdr k with fresh := .lost } })) ∧
    (∀ n : StationNo,
      let at' := max s.pw.time (tickAtOrAfter t 100 ((s.peer.station n).lastTime + 1000))
      (s.peer.station n).state ≠ .absent →
        ∃ u, exec (.stationAbsent n) s = .next u ∧ u.pw.time = at' ∧
          (∀ m, u.peer.station m =
            if m = n then
              { s.peer.station n with
                state := .absent, last := none, hitRun := 0, window := []
                tallies := { (s.peer.station n).tallies with
                  absents := min ((s.peer.station n).tallies.absents + 1) 255 } }
            else s.peer.station m) ∧
          (∀ k, u.sig.hdr k =
            if (s.sig.hdr k).bound = some n ∧ ((s.sig.hdr k).fresh = .fresh ∨ (s.sig.hdr k).fresh = .stale) then
              { s.sig.hdr k with fresh := .lost }
            else s.sig.hdr k) ∧
          u.acc = s.acc ∧ u.trip = s.trip ∧ u.line = s.line ∧ u.mem = s.mem ∧ u.gauges = s.gauges ∧
          u.chime = s.chime ∧ u.readout = s.readout ∧ u.tally = s.tally ∧ u.pending = s.pending)

/-- The shares of a tick that have rows of their own, each alone (MODEL'S CHOICE, log 6): FAST_FILL_END (R41), ROTATION_ADVANCE
(R135), MARK_EXPIRY (R96), LAMP_TEST_END (R100), DAY_STEP (R140), ENGINE_HOURS_STEP (R117, R118) and UNKNOWN_TIMEOUT (R33). That
the rotation advances while a warning text covers the page too is R135's word against R131's (DEDUCED, log 35). -/
def Obligations.TickShares : Prop :=
  (∀ s : State,
      (s.pw.state = .active → s.trip.fastFill = 1 →
        exec .fastFillEnd s = .next (State.finish { s with trip := { s.trip with fastFill := 0 } })) ∧
      (s.readout.page = .lastTrip → s.readout.rotCount = 19 → s.pw.nextTrip ≠ none →
        exec .rotationAdvance s = .next (State.finish
          { s with readout := { s.readout with rotCount := 0, rotPos := nextRotation s.readout.rotPos } })) ∧
      (∀ (n : Fin 32) (e : Warning) (m : Nat), s.warn.entry n.val = some e → e.mark = some m →
        exec (.markExpiry n) s = .next (State.finish
          { s with pw := { s.pw with time := max s.pw.time (tickAtOrAfter s.pw.nextSecond 1000 m) }
                   warn := s.warn.setEntry n.val { e with mark := none } })) ∧
      (∀ m : Nat, s.warn.lampTest = some m →
        exec .lampTestEnd s = .next (State.finish
          { s with pw := { s.pw with time := max s.pw.time (tickAtOrAfter s.pw.nextSecond 1000 m) }
                   warn := { s.warn with lampTest := none } })) ∧
      nextRotation .distance = .economy ∧ nextRotation .economy = .speed ∧ nextRotation .speed = .time ∧
      nextRotation .time = .distance) ∧
  (∀ s : State,
      (s.readout.hour = 23 → s.readout.minute = 59 → s.readout.second = 59 → s.readout.day < 65535 →
        let r : Readout := { s.readout with hour := 0, minute := 0, second := 0, day := s.readout.day + 1 }
        let u : State :=
          { s with readout := r
                   pw := { s.pw with
                     queue := writeRequest s.pw.queue .counters (countersWords s.service.hours (s.readout.day + 1)) }
                   service := { s.service with
                     items := s.service.items.map (fun x =>
                       { x with state := itemState x s.acc.odo (s.readout.day + 1) s.service.hours }) } }
        exec .dayStep s = .next (State.finish
          (if s.pw.role = .front ∧ s.readout.unset = false ∧
              (s.pw.state = .standby ∨ s.pw.state = .active ∨ s.pw.state = .crank) then
            u.sendFrame kindClock none [0#8, 0#8, 0#8, byteOf (s.readout.day + 1) 1, byteOf (s.readout.day + 1) 0]
           else u))) ∧
      (engineRunning s = true → s.service.seconds = 359 → s.service.hours < 999999 →
        let hours := s.service.hours + 1
        (hours / 10 = s.service.hours / 10 →
          exec .engineHoursStep s = .next (State.finish
            { s with service := { s.service with seconds := 0, hours := hours } })) ∧
        (hours / 10 ≠ s.service.hours / 10 →
          exec .engineHoursStep s = .next (State.finish
            { s with
              service := { s.service with
                seconds := 0, hours := hours
                items := s.service.items.map (fun x => { x with state := itemState x s.acc.odo s.readout.day hours }) }
              pw := { s.pw with
                queue := writeRequest s.pw.queue .counters (countersWords hours s.readout.day) } }))) ∧
      (engineRunning s = true → s.service.seconds = 359 → 999999 ≤ s.service.hours →
        exec .engineHoursStep s = .next (State.finish { s with service := { s.service with seconds := 0 } })) ∧
      (s.acc.unknownTimer = some 29 →
        exec .unknownTimeout s = .next (State.finish (State.sendFrame
          { s with acc := { s.acc with unknownTimer := none, odoUnknown := false }
                   pw := { s.pw with queue := writeRequest s.pw.queue .odometer (slotWords s.acc.odo) } }
          kindOdoAnnounce none [byteOf s.acc.odo 2, byteOf s.acc.odo 1, byteOf s.acc.odo 0, 0#8]))))

/-- HEARTBEAT_TICK: in STANDBY, ACTIVE and CRANK an own STATUS is requested with the value of the sequence, corrupted as R168
and R169 state, and the generator advances; elsewhere the tick passes. That bits 5 to 2 of the second byte are sent as 0 is the
MODEL'S CHOICE (log 39). -/
def Obligations.HeartbeatTick : Prop :=
  ∀ (s : State) (t : Nat) (v : BitVec 7), s.pw.nextHeart = some t → s.peer.generator = some v →
    let ticked : State := { s with pw := { s.pw with time := max s.pw.time t, nextHeart := some (t + 200) } }
    let due : Bool := s.peer.rate != 0 && decide (10 ^ s.peer.rate ≤ s.peer.count + 1)
    let sent : BitVec 7 := if due || s.peer.once then v ^^^ 0x55#7 else v
    let next : BitVec 7 := BitVec.ofNat 7 (v.toNat * 2 % 128 + (v.toNat / 64 + v.toNat / 32) % 2)
    let code : Nat := match s.pw.state with
      | .standby => 1
      | .active => 2
      | .crank => 3
      | _ => 0
    let flags : Byte :=
      BitVec.ofNat 8 ((if s.pw.role = .rear then 128 else 0) + (if s.peer.clash then 64 else 0) + code)
    (s.pw.state = .standby ∨ s.pw.state = .active ∨ s.pw.state = .crank →
      exec .heartbeatTick s = .next (State.finish (State.sendFrame
        { ticked with peer := { s.peer with
            generator := some next
            count := if s.peer.rate = 0 then s.peer.count else if due then 0 else s.peer.count + 1
            once := false } }
        kindStatus none [BitVec.ofNat 8 sent.toNat, flags]))) ∧
    (¬ (s.pw.state = .standby ∨ s.pw.state = .active ∨ s.pw.state = .crank) →
      exec .heartbeatTick s = .next ticked.finish)

/-- ONE_SECOND_TICK: the clock (R140), the engine-hour counter (R117), the elapsed times (R37), the marks (R96), the lamp test
(R100), the unknown timer (R33) and the keep-alive count (R172), in every power state that gives each its work; the CLOCK frame of
a minute change at the FRONT cluster (R142); the COUNTERS write and the items of a day step and of a whole hour (R140, R118, R121);
the write and the announcement of the unknown timeout (R33); and the return stage with its writes where the keep-alive period ends
at this tick (R172, R173). The order of the blocks is the MODEL'S CHOICE (log 7): the clock goes before the engine hours, so a
day step writes the hours of before the tick; the CLOCK frame is requested before the ODO ANNOUNCE; and the keep-alive timer is
judged last, after the writes of every other block. -/
def Obligations.OneSecondTick : Prop :=
  ∀ s : State,
    let now := max s.pw.time s.pw.nextSecond
    let r := s.readout
    let running : Bool :=
      (s.pw.state == .standby || s.pw.state == .active || s.pw.state == .crank) && s.sig.engineHdr.fresh == .fresh &&
        decide (400 ≤ s.sig.engine.speed)
    let midnight : Prop := 59 ≤ r.second ∧ 59 ≤ r.minute ∧ 23 ≤ r.hour ∧ r.day < 65535
    let hourStep : Prop := running = true ∧ 360 ≤ s.service.seconds + 1 ∧ s.service.hours < 999999 ∧
      (s.service.hours + 1) / 10 ≠ s.service.hours / 10
    let timeout : Prop := ∃ m, s.acc.unknownTimer = some m ∧ 30 ≤ m + 1
    ∃ u, exec .oneSecondTick s = .next u ∧ u.pw.time = now ∧ u.pw.nextSecond = s.pw.nextSecond + 1000 ∧
      u.pw.state = s.pw.state ∧
      u.readout.second = (if r.second < 59 then r.second + 1 else 0) ∧
      u.readout.minute = (if r.second < 59 then r.minute else if r.minute < 59 then r.minute + 1 else 0) ∧
      u.readout.hour =
        (if r.second < 59 ∨ r.minute < 59 then r.hour else if r.hour < 23 then r.hour + 1 else 0) ∧
      u.readout.day =
        (if r.second < 59 ∨ r.minute < 59 ∨ r.hour < 23 then r.day else if r.day < 65535 then r.day + 1 else r.day) ∧
      u.readout.unset = r.unset ∧ u.readout.message = r.message ∧
      (u.service.seconds, u.service.hours) =
        (if running then
          (if 360 ≤ s.service.seconds + 1 then
            (0, if s.service.hours < 999999 then s.service.hours + 1 else s.service.hours)
           else (s.service.seconds + 1, s.service.hours))
         else (s.service.seconds, s.service.hours)) ∧
      u.trip = (if s.pw.state = .active ∨ s.pw.state = .crank then s.trip.add 0 0 1 else s.trip) ∧
      (∀ n e, s.warn.entry n = some e → ∃ e', u.warn.entry n = some e' ∧
        e' = { e with mark := match e.mark with
          | some m => if m ≤ now then none else some m
          | none => none }) ∧
      u.warn.lampTest = (match s.warn.lampTest with
        | some m => if m ≤ now then none else some m
        | none => none) ∧
      (u.acc.unknownTimer, u.acc.odoUnknown) = (match s.acc.unknownTimer with
        | none => (none, s.acc.odoUnknown)
        | some m => if 30 ≤ m + 1 then (none, false) else (some (m + 1), s.acc.odoUnknown)) ∧
      u.acc.odo = s.acc.odo ∧ u.acc.unknownCond = s.acc.unknownCond ∧
      u.service.items =
        (if midnight ∨ hourStep then
          s.service.items.map (fun x => { x with state := itemState x s.acc.odo u.readout.day u.service.hours })
         else s.service.items) ∧
      (s.line.tx.length < 7 →
        let afterClock :=
          if 59 ≤ r.second ∧ s.pw.role = .front ∧ r.unset = false ∧
              (s.pw.state = .standby ∨ s.pw.state = .active ∨ s.pw.state = .crank) then
            (txRequest s.line.tx kindClock none
              [byteOf u.readout.hour 0, byteOf u.readout.minute 0, byteOf u.readout.second 0, byteOf u.readout.day 1,
               byteOf u.readout.day 0]).queue
          else s.line.tx
        u.line.tx =
          if timeout then
            (txRequest afterClock kindOdoAnnounce none
              [byteOf s.acc.odo 2, byteOf s.acc.odo 1, byteOf s.acc.odo 0, 0#8]).queue
          else afterClock) ∧
      (let days := if midnight then writeRequest s.pw.queue .counters (countersWords s.service.hours u.readout.day)
                   else s.pw.queue
       let hours := if hourStep then writeRequest days .counters (countersWords u.service.hours u.readout.day) else days
       let saved := if timeout then writeRequest hours .odometer (slotWords s.acc.odo) else hours
       let expired : Prop := s.pw.state = .standby ∧ s.pw.returning = false ∧ awakeReason s = false ∧ saved = [] ∧
         s.pw.writing = none ∧ s.cal.keepAlive ≤ s.pw.keepAlive.getD 0 + 1
       (¬ expired → u.pw.queue = saved) ∧
       (expired → u.pw.returning = true ∧ u.pw.keepAlive = none ∧
         u.pw.queue =
           [{ key := .trip, data := tripWords s.trip },
            { key := .counters, data := countersWords u.service.hours u.readout.day }] ++
             (if u.acc.odoUnknown then [] else [{ key := .odometer, data := slotWords s.acc.odo }]))) ∧
      (∀ m, s.pw.state = .standby → s.pw.returning = false → s.pw.keepAlive = some m → m + 1 < s.cal.keepAlive →
        keepAwake u = false → u.pw.keepAlive = some (m + 1) ∧ u.pw.returning = false) ∧
      u.pins = s.pins ∧ u.mem = s.mem ∧ u.cal = s.cal ∧ u.sig = s.sig ∧ u.gauges = s.gauges ∧ u.chime = s.chime ∧
      u.line.inbound = s.line.inbound ∧ u.peer.stations = s.peer.stations ∧ u.pending = s.pending

/-! ## The line -/

/-- A frame laid out on the line bit by bit (R145) is read back whole by the receiver (R146), whatever its priority, kind,
source and data; and its bytes sum to 255 modulo 256. -/
def Obligations.FrameRoundTrip : Prop :=
  ∀ (prio : Nat) (f : Frame), prio < 8 → f.data.length ≤ 6 →
    readFrame (frameLevels prio f) = .good f ∧
      (frameLevels prio f).length = 10 * (f.data.length + 3) ∧
      (frameBytes prio f).foldl (· + ·) 0#8 = 255#8

/-- FRAME_RECEIVE: what the receiver does with the bits of a frame, in each outcome of R146: nothing while it waits for the
idle line; a frame in progress; a bad length; a bad check or framing; a good frame stored and acknowledged, or refused at a
full queue (R147, R148, R152, R155). Until a frame's slots are reached the part drives neither of them. That a frame with a wrong
start or stop bit is followed to its slots, and its HOLD slot read, is DEDUCED (log 14); that the arrival time is that of the
command is the model's choice (log 32). -/
def Obligations.FrameReceive : Prop :=
  ∀ (s : State) (bits : List Bool) (hold : Bool), s.pw.state ≠ .sleep → bits ≠ [] →
    let all := s.line.rx.bitsSoFar ++ bits
    let slot : State → Bool → State := fun u own =>
      if own || hold then
        { u with line := { u.line with holdDriven := own, pause := some (s.pw.time + 40) },
                 tally := { u.tally with holdsSeen := min (u.tally.holdsSeen + 1) 65535 } }
      else { u with line := { u.line with holdDriven := own } }
    let busy : State := { s with line := { s.line with idle := false, ackDriven := false, holdDriven := false } }
    let counted : OwnTallies := { s.tally with rxCheckErrors := min (s.tally.rxCheckErrors + 1) 65535 }
    (s.line.rx = .waitIdle → exec (.frameReceive bits hold) s = .next busy.finish) ∧
    (s.line.rx ≠ .waitIdle →
      (readFrame all = .incomplete →
        exec (.frameReceive bits hold) s = .next (State.finish
          { busy with line := { busy.line with rx := .midFrame all } })) ∧
      (readFrame all = .badLength →
        exec (.frameReceive bits hold) s = .next (State.finish
          { busy with line := { busy.line with rx := .waitIdle }, tally := counted })) ∧
      (readFrame all = .bad →
        exec (.frameReceive bits hold) s = .next (State.finish (slot
          { busy with line := { busy.line with rx := .ready, ackDriven := false }, tally := counted }
          s.line.holding))) ∧
      (∀ f, readFrame all = .good f → s.line.inbound.length < 16 →
        let holding := s.line.holding || decide (s.line.halt ≤ s.line.inbound.length + 1)
        exec (.frameReceive bits hold) s = .next (State.finish (slot
          { busy with line := { busy.line with
              rx := .ready, inbound := s.line.inbound ++ [{ frame := f, arrival := s.pw.time }]
              holding := holding, ackDriven := true } }
          holding))) ∧
      (∀ f, readFrame all = .good f → 16 ≤ s.line.inbound.length →
        exec (.frameReceive bits hold) s = .next (State.finish (slot
          { busy with line := { busy.line with rx := .ready, ackDriven := false },
                      tally := { s.tally with rxOverflow := min (s.tally.rxOverflow + 1) 65535 } }
          s.line.holding))))

/-- FRAME_BEGIN: under the five conditions of R149 the head entry is begun; a sender that no other overrides goes on, one
overridden within the arbitration field keeps its entry untried, and a later override ends the attempt without ACK (R150). That
the stop and start bits between the header bytes belong to the arbitration field is DEDUCED (log 15); that a bit error ends the
attempt within this command is the model's choice (log 25). -/
def Obligations.FrameBegin : Prop :=
  ∀ (s : State) (e : TxEntry) (rest : List TxEntry) (others : List Bool),
    (s.pw.state = .standby ∨ s.pw.state = .active ∨ s.pw.state = .crank) →
    s.line.fault = false → s.line.idle = true → s.line.tx = e :: rest → (∀ x ∈ e :: rest, x.sending = false) →
    (priorityOf e.kind ≤ 3 ∨ ∀ t, s.line.pause = some t → t ≤ s.pw.time) →
    let own := frameLevels (priorityOf e.kind) { kind := e.kind, source := s.pw.station, data := e.data }
    let begun : State := { s with line := { s.line with idle := false, tx := { e with sending := true } :: rest } }
    (sendResult own others = .sent → exec (.frameBegin others) s = .next begun.finish) ∧
    (sendResult own others = .arbitrationLost →
      exec (.frameBegin others) s = .next (State.finish
        { s with line := { s.line with
            idle := false, tx := { e with data := e.replacement.getD e.data, replacement := none } :: rest } })) ∧
    (sendResult own others = .bitError → exec (.frameBegin others) s = .next (begun.endAttempt false).finish) ∧
    ((∀ k, k < own.length → k < others.length → own[k]? = some true → others[k]? = some true) ↔
      sendResult own others = .sent) ∧
    (sendResult own others = .arbitrationLost ↔
      ∃ k, k ≤ 14 ∧ k < own.length ∧ own[k]? = some true ∧ others[k]? = some false)

/-- ATTEMPT_END: the slots of the part's own frame, and the entry's outcome by R151: delivered; a STATUS without ACK removed;
kept for another attempt; or removed as undelivered after the third. A departure of another kind than TALLY REPORT has no further
effect; on that of a TALLY REPORT the next part of the sequence is queued, a part refused at a full queue gives way to the one after
it, and the last one ends the sequence. The six bytes of each part of a report come from the snapshot (R166, R167). -/
def Obligations.AttemptEnd : Prop :=
  ∀ (s : State) (e : TxEntry) (ack hold : Bool),
    (s.pw.state = .standby ∨ s.pw.state = .active ∨ s.pw.state = .crank) →
    s.line.tx.find? (fun x => x.sending) = some e →
    let paused : Line := { s.line with ackDriven := false, holdDriven := s.line.holding, pause :=
      if s.line.holding || hold then some (s.pw.time + 40) else s.line.pause }
    let tally : OwnTallies :=
      if s.line.holding || hold then { s.tally with holdsSeen := min (s.tally.holdsSeen + 1) 65535 } else s.tally
    let removed : List TxEntry :=
      match e.replacement with
      | some d => txPlace { kind := e.kind, subject := e.subject, data := d, attempts := 0, sending := false,
                            replacement := none } (s.line.tx.filter (fun x => !x.sending))
      | none => s.line.tx.filter (fun x => !x.sending)
    (ack = true ∨ e.kind = kindStatus →
      exec (.attemptEnd ack hold) s = .next (State.finish
        (State.departure { s with line := { paused with tx := removed }, tally := tally } e.kind))) ∧
    (ack = false → e.kind ≠ kindStatus → e.attempts + 1 < 3 →
      exec (.attemptEnd ack hold) s = .next (State.finish
        { s with tally := tally
                 line := { paused with tx := s.line.tx.map (fun x =>
                   if x.sending then
                     { x with sending := false, data := x.replacement.getD x.data, replacement := none,
                              attempts := x.attempts + 1 }
                   else x) } })) ∧
    (ack = false → e.kind ≠ kindStatus → 3 ≤ e.attempts + 1 →
      exec (.attemptEnd ack hold) s = .next (State.finish
        (State.departure { s with line := { paused with tx := removed },
                                  tally := { tally with undelivered := min (tally.undelivered + 1) 65535 } } e.kind))) ∧
    (∀ (u : State) (k : BitVec 5), k ≠ kindTallyReport → u.departure k = u) ∧
    (∀ u : State,
      (u.peer.report.length ≤ 1 → u.departure kindTallyReport = { u with peer := { u.peer with report := [] } }) ∧
      (∀ last n part rest, u.peer.report = last :: (n, part) :: rest →
        u.departure kindTallyReport = sendReports ((n, part) :: rest) u)) ∧
    (∀ (u : State) (n part : Nat) (more : List (Nat × Nat)),
      (u.line.tx.length < 8 ∨ (∃ x ∈ u.line.tx, x.kind = kindTallyReport ∧ x.subject = some n) →
        sendReports ((n, part) :: more) u =
          { u with
            line := { u.line with
              tx := (txRequest u.line.tx kindTallyReport (some n) (reportData u.peer.snapshot n part)).queue }
            peer := { u.peer with report := (n, part) :: more } }) ∧
      (8 ≤ u.line.tx.length → (∀ x ∈ u.line.tx, ¬ (x.kind = kindTallyReport ∧ x.subject = some n)) →
        sendReports ((n, part) :: more) u =
          sendReports more { u with tally := { u.tally with txDropped := min (u.tally.txDropped + 1) 65535 } })) ∧
    (∀ u : State, sendReports [] u = { u with peer := { u.peer with report := [] } }) ∧
    (∀ snap : Snapshot,
      let low : Nat → Byte := fun v => BitVec.ofNat 8 v
      let high : Nat → Byte := fun v => BitVec.ofNat 8 (v / 256)
      let o := snap.own
      (∀ n r, n < 16 → snap.stations[n]? = some r →
        reportData snap n 1 =
          [low (n * 8 + 1), high r.hits, low r.hits, high r.misses, low r.misses, low r.slips] ∧
        reportData snap n 2 = [low (n * 8 + 2), high r.mismatches, low r.mismatches, low r.absents, 0#8, 0#8]) ∧
      reportData snap 16 1 =
        [129#8, high o.rxCheckErrors, low o.rxCheckErrors, high o.rxOverflow, low o.rxOverflow, low o.lineFaults] ∧
      reportData snap 16 2 =
        [130#8, high o.foreignFrames, low o.foreignFrames, high o.undelivered, low o.undelivered,
         low o.chimesDisplaced] ∧
      reportData snap 16 3 =
        [131#8, high o.txDropped, low o.txDropped, high o.holdsSeen, low o.holdsSeen, low o.odometerDisagree] ∧
      reportData snap 16 4 =
        [132#8, high o.distanceGaps, low o.distanceGaps, high o.fuelGaps, low o.fuelGaps, 0#8])

/-- HOLD_PAUSE_END (R152); LINE_FAULT_DETECT, whether or not a fault is set before it: the run is counted (DEDUCED, log 16), an
attempt ends without ACK, and a frame in reception is broken off uncounted; LINE_FAULT_CLEAR (R156); and LINE_IDLE, at which a frame
broken off by silence is counted and its slots are not driven (R145, R146, R157). -/
def Obligations.LineConditions : Prop :=
  ∀ s : State,
    (∀ t, s.line.pause = some t →
      exec .holdPauseEnd s = .next (State.finish
        { s with pw := { s.pw with time := max s.pw.time t }, line := { s.line with pause := none } })) ∧
    (s.pw.state ≠ .sleep →
      let faulted : Line → State := fun l =>
        { s with line := { l with fault := true, idle := false }
                 tally := { s.tally with lineFaults := min (s.tally.lineFaults + 1) 255 } }
      (∀ bits, s.line.rx = .midFrame bits →
        exec .lineFaultDetect s = .next (State.finish (State.endAttempt
          (faulted { s.line with rx := .ready, ackDriven := false, holdDriven := false }) false))) ∧
      (s.line.rx = .ready ∨ s.line.rx = .waitIdle →
        exec .lineFaultDetect s = .next (State.finish (State.endAttempt (faulted s.line) false)) ∧
        ((∀ e ∈ s.line.tx, e.sending = false) → exec .lineFaultDetect s = .next (faulted s.line).finish))) ∧
    (s.pw.state ≠ .sleep → s.line.fault = true →
      exec .lineFaultClear s = .next (State.finish { s with line := { s.line with fault := false } })) ∧
    (s.pw.state ≠ .sleep →
      (∀ bits, s.line.rx = .midFrame bits →
        exec .lineIdle s = .next (State.finish
          { s with line := { s.line with idle := true, rx := .ready, ackDriven := false, holdDriven := false },
                   tally := { s.tally with rxCheckErrors := min (s.tally.rxCheckErrors + 1) 65535 } })) ∧
      (s.line.rx = .ready ∨ s.line.rx = .waitIdle →
        exec .lineIdle s = .next (State.finish { s with line := { s.line with idle := true, rx := .ready } })))

/-- A request to send (R153, R154): new data for an entry of its key, in place or as its replacement; a new entry behind every
entry of the same or better priority; at a full queue the newest entry of the worst priority displaced, or a refusal. -/
def Obligations.TransmitRequest : Prop :=
  ∀ (q : List TxEntry) (kind : BitVec 5) (subject : Option Nat) (data : List Byte),
    q.Pairwise (fun x y => priorityOf x.kind ≤ priorityOf y.kind) →
    let fresh : TxEntry :=
      { kind := kind, subject := subject, data := data, attempts := 0, sending := false, replacement := none }
    let r := txRequest q kind subject data
    ((∃ e ∈ q, e.kind = kind ∧ e.subject = subject) →
      r.departed = none ∧ r.dropped = false ∧
      r.queue = q.map (fun e =>
        if e.kind = kind ∧ e.subject = subject then
          (if e.sending then { e with replacement := some data } else { e with data := data })
        else e)) ∧
    ((∀ e ∈ q, ¬ (e.kind = kind ∧ e.subject = subject)) → q.length < 8 →
      r.departed = none ∧ r.dropped = false ∧
      ∃ front back, q = front ++ back ∧ r.queue = front ++ fresh :: back ∧
        (∀ e ∈ front, priorityOf e.kind ≤ priorityOf kind) ∧ ∀ e ∈ back, priorityOf kind < priorityOf e.kind) ∧
    ((∀ e ∈ q, ¬ (e.kind = kind ∧ e.subject = subject)) → 8 ≤ q.length →
      (∀ e ∈ q, e.sending = false → priorityOf e.kind ≤ priorityOf kind) →
        r = { queue := q, departed := some kind, dropped := true }) ∧
    ((∀ e ∈ q, ¬ (e.kind = kind ∧ e.subject = subject)) → 8 ≤ q.length →
      (q.map TxEntry.key).Nodup →
      (∃ e ∈ q, e.sending = false ∧ priorityOf kind < priorityOf e.kind) →
        r.dropped = true ∧ ∃ front w back, q = front ++ w :: back ∧ w.sending = false ∧
          (∀ e ∈ back, e.sending = true) ∧ r.departed = some w.kind ∧
          r.queue.Perm (fresh :: (front ++ back)) ∧
          r.queue.Pairwise (fun x y => priorityOf x.kind ≤ priorityOf y.kind))

/-! ## Frames the Dispatcher takes -/

/-- In LOAD, STABILISE and SLEEP the Dispatcher takes nothing (R1). A frame of a kind with no owner is removed and has no effect
(R3), by UNKNOWN_KIND for the kinds 0 and 17 to 31, TALLY_REPORT and CAL_REPLY. A signal frame too short or from an ABSENT
station changes nothing but the inbound queue (R5, R9); one from another station than the bound one is counted in *foreign
frames* (R10). A KEY frame too short, with a code that names no key, for another role, or a repeat of the last one within 60 ms
is removed, and the last key record stays (R138, R139). That a command whose event does not occur changes nothing (log 1), and that
a KEY frame that names no key may be taken by any of the ten rows (log 8), are the model's choices. -/
def Obligations.FramesDiscarded : Prop :=
  (∀ s : State,
      (s.pw.state = .load ∨ s.pw.state = .stabilise ∨ s.pw.state = .sleep →
        ∀ c ∈ [Instr.engine, .chassis, .body, .fuelLevel, .warnAck, .serviceReset, .odoAnnounce, .clock, .options, .status,
               .tallyRequest, .calWrite, .tallyReport, .calReply, .unknownKind, .lamp, .insertRate, .insertOnce, .restart,
               .pageNext, .pageBack, .tripSelect, .tripReset, .odoSelect, .acknowledge, .hour, .minute, .serviceResetKey,
               .call],
          exec c s = .next s) ∧
      (s.pw.state = .standby ∨ s.pw.state = .active ∨ s.pw.state = .crank → ∀ f rest, s.line.inbound = f :: rest →
        let taken : State :=
          { s with line := { s.line with
              inbound := rest, holding := if rest.length ≤ s.line.resume then false else s.line.holding } }
        (f.frame.kind = 13#5 → exec .tallyReport s = .next taken.finish) ∧
        (f.frame.kind = 15#5 → exec .calReply s = .next taken.finish) ∧
        (f.frame.kind = 0#5 ∨ 17 ≤ f.frame.kind.toNat → exec .unknownKind s = .next taken.finish))) ∧
  (∀ (s : State) (f : Stored) (rest : List Stored) (k : SignalKind) (c : Instr),
      (s.pw.state = .standby ∨ s.pw.state = .active ∨ s.pw.state = .crank) → s.line.inbound = f :: rest →
      (k, c, f.frame.kind) ∈ [(SignalKind.engine, Instr.engine, 1#5), (.chassis, .chassis, 2#5), (.body, .body, 5#5),
                              (.fuelLevel, .fuelLevel, 6#5)] →
      let taken : State :=
        { s with line := { s.line with
            inbound := rest, holding := if rest.length ≤ s.line.resume then false else s.line.holding } }
      (f.frame.data.length < requiredLength k ∨ (s.peer.station f.frame.source).state = .absent →
        exec c s = .next taken.finish) ∧
      (requiredLength k ≤ f.frame.data.length → (s.peer.station f.frame.source).state ≠ .absent →
        (s.sig.hdr k).fresh = .fresh ∨ (s.sig.hdr k).fresh = .stale → (s.sig.hdr k).bound ≠ some f.frame.source →
        exec c s = .next (State.finish
          { taken with tally := { s.tally with foreignFrames := min (s.tally.foreignFrames + 1) 65535 } })) ∧
      requiredLength .engine = 6 ∧ requiredLength .chassis = 3 ∧ requiredLength .body = 4 ∧ requiredLength .fuelLevel = 2) ∧
  (∀ (s : State) (f : Stored) (rest : List Stored),
      (s.pw.state = .standby ∨ s.pw.state = .active ∨ s.pw.state = .crank) → s.line.inbound = f :: rest →
      f.frame.kind = 3#5 →
      let taken : State :=
        { s with line := { s.line with
            inbound := rest, holding := if rest.length ≤ s.line.resume then false else s.line.holding } }
      let target := (f.frame.byte 1).toNat
      (f.frame.data.length < 3 ∨ ¬ (target = 2 ∨ (target = 0 ∧ s.pw.role = .front) ∨ (target = 1 ∧ s.pw.role = .rear)) ∨
        (∃ l, s.readout.lastKey = some l ∧ l.source = f.frame.source ∧ l.target = f.frame.byte 1 ∧
          l.code = f.frame.byte 2 ∧ l.arg = f.frame.byte 3 ∧ f.arrival < l.arrival + 60)) →
        ∀ p ∈ [(1, Instr.pageNext), (2, .pageBack), (3, .tripSelect), (4, .tripReset), (5, .odoSelect), (6, .acknowledge),
               (7, .hour), (8, .minute), (9, .serviceResetKey), (10, .call)],
          (f.frame.byte 2).toNat = p.1 → exec p.2 s = .next taken.finish) ∧
  (∀ (s : State) (f : Stored) (rest : List Stored),
      (s.pw.state = .standby ∨ s.pw.state = .active ∨ s.pw.state = .crank) → s.line.inbound = f :: rest →
      f.frame.kind = 3#5 →
      let taken : State :=
        { s with line := { s.line with
            inbound := rest, holding := if rest.length ≤ s.line.resume then false else s.line.holding } }
      (f.frame.data.length < 3 ∨ (f.frame.byte 2).toNat = 0 ∨ 10 < (f.frame.byte 2).toNat) →
        ∀ c ∈ [Instr.pageNext, .pageBack, .tripSelect, .tripReset, .odoSelect, .acknowledge, .hour, .minute,
               .serviceResetKey, .call],
          exec c s = .next taken.finish)

/-- A signal frame accepted: FRESH, bound to its source, with its arrival time, rebound exactly where the entry was NONE or
LOST (R7, R8), its bytes converted (R5, R6, R12), and the counts and the sender value handed on (R11, R12). -/
def Obligations.SignalFrameAccepted : Prop :=
  ∀ (s : State) (f : Stored) (rest : List Stored) (k : SignalKind) (n : Nat → Byte),
    (s.pw.state = .standby ∨ s.pw.state = .active ∨ s.pw.state = .crank) → s.line.inbound = f :: rest →
    (∀ m, f.frame.data[m]? = if m < f.frame.data.length then some (n (m + 1)) else none) →
    requiredLength k ≤ f.frame.data.length → (s.peer.station f.frame.source).state ≠ .absent →
    let held : Prop := (s.sig.hdr k).fresh = .fresh ∨ (s.sig.hdr k).fresh = .stale
    (held → (s.sig.hdr k).bound = some f.frame.source) →
    let rebound : Bool := (s.sig.hdr k).fresh == .none || (s.sig.hdr k).fresh == .lost
    let header : SigHeader := { fresh := .fresh, bound := some f.frame.source, arrival := f.arrival, rebound := rebound }
    let bit : Byte → Nat → Bool := fun b i => b.toNat / 2 ^ i % 2 == 1
    let taken : State :=
      { s with line := { s.line with
          inbound := rest, holding := if rest.length ≤ s.line.resume then false else s.line.holding } }
    (k = .engine → f.frame.kind = 1#5 →
      exec .engine s = .next (State.finish (State.fuelCount
        { taken with sig := { s.sig with
            engineHdr := header
            engine := { speed := (n 1).toNat * 32, coolant := min 150 ((n 2).toNat - 40), oil := (n 3).toNat * 4,
                        fuelCount := n 4 ++ n 5, chargeFault := bit (n 6) 7, checkEngine := bit (n 6) 6,
                        oilSwitch := bit (n 6) 5 } } }
        (n 4 ++ n 5) rebound))) ∧
    (k = .chassis → f.frame.kind = 2#5 →
      exec .chassis s = .next (State.finish (State.distanceCount
        { taken with sig := { s.sig with
            chassisHdr := header
            chassis := { distCount := n 1 ++ n 2, fluidLow := bit (n 3) 7, parkingBrake := bit (n 3) 6,
                         padWear := bit (n 3) 5 } } }
        (n 1 ++ n 2) rebound))) ∧
    (k = .body → f.frame.kind = 5#5 →
      exec .body s = .next (State.finish
        { taken with sig := { s.sig with
            bodyHdr := header
            body := { door1 := bit (n 1) 7, door2 := bit (n 1) 6, door3 := bit (n 1) 5, door4 := bit (n 1) 4,
                      partition := bit (n 1) 3, headlamp := bit (n 1) 2, bulbOut := bit (n 1) 1, keyIn := bit (n 1) 0,
                      beltOpen := bit (n 2) 7, battery := (n 3).toNat,
                      outside := min 60 ((n 4).toNat - 40) } } })) ∧
    (k = .fuelLevel → f.frame.kind = 6#5 → bit (n 2) 7 = true →
      exec .fuelLevel s = .next (State.finish
        { taken with sig := { s.sig with fuelHdr := header, fuel := { s.sig.fuel with senderFault := true } } })) ∧
    (k = .fuelLevel → f.frame.kind = 6#5 → bit (n 2) 7 = false →
      exec .fuelLevel s = .next (State.finish
        { taken with
          sig := { s.sig with fuelHdr := header, fuel := { sender := (n 1).toNat, senderFault := false } }
          trip := s.trip.senderValue s.pw.state (n 1).toNat }))

/-- A new distance count (R19 to R21, R25, R35, R46): a rebase, a gap, or a delta of at most 1,023 pulses whose whole metres go
in equal number to the odometer's count, to both trips and to the range window. A new fuel count (R19, R20, R22, R35, R47): a
rebase, a gap, or a delta whose whole millilitres go to both trips and to the range window; the odometer takes no part. -/
def Obligations.Counts : Prop :=
  (∀ (s : State) (count : Word) (rebound : Bool),
      let based : State := { s with acc := { s.acc with distBase := some count } }
      (rebound = true ∨ s.acc.distBase = none → s.distanceCount count rebound = based) ∧
      (∀ b, rebound = false → s.acc.distBase = some b → 1023 < (count - b).toNat →
        s.distanceCount count rebound =
          { based with tally := { s.tally with distanceGaps := min (s.tally.distanceGaps + 1) 65535 } }) ∧
      (∀ b, rebound = false → s.acc.distBase = some b → (count - b).toNat ≤ 1023 →
        let d := (count - b).toNat
        let m := (s.acc.distRes + d * 1000) / s.cal.kDist
        let u := s.distanceCount count rebound
        u.acc.distBase = some count ∧ u.acc.fillDist = min (s.acc.fillDist + d) 65535 ∧
        u.acc.distRes = (s.acc.distRes + d * 1000) % s.cal.kDist ∧
        (m = 0 → u.acc.odo = s.acc.odo ∧ u.acc.metres = s.acc.metres ∧ u.trip = s.trip ∧ u.line = s.line ∧ u.pw = s.pw) ∧
        (0 < m →
          u.acc.metres = (s.acc.metres + m) % 100 ∧
          u.acc.odo = min (s.acc.odo + (s.acc.metres + m) / 100) 9999999 ∧
          (u.trip.a, u.trip.snapA) = recordAdd s.trip.a s.trip.snapA m 0 0 ∧
          (u.trip.b, u.trip.snapB) = recordAdd s.trip.b s.trip.snapB m 0 0 ∧
          (u.trip.winDist, u.trip.winFuel) =
            (if 64000 ≤ s.trip.winDist + m then ((s.trip.winDist + m) / 2, s.trip.winFuel / 2)
             else (s.trip.winDist + m, s.trip.winFuel)) ∧
          u.trip.f = s.trip.f ∧ u.trip.received = s.trip.received ∧ u.trip.fastFill = s.trip.fastFill ∧
          (u.acc.odo / 10 = s.acc.odo / 10 → u.pw = s.pw ∧ u.service = s.service) ∧
          (u.acc.odo / 10 ≠ s.acc.odo / 10 →
            u.pw.queue = (if s.acc.odoUnknown then s.pw.queue
                          else writeRequest s.pw.queue .odometer (slotWords u.acc.odo)) ∧
            u.service.items = s.service.items.map (fun x =>
              { x with state := itemState x u.acc.odo s.readout.day s.service.hours })) ∧
          (u.acc.odo / 100 = s.acc.odo / 100 → u.line = s.line) ∧
          (u.acc.odo / 100 ≠ s.acc.odo / 100 → s.line.tx.length < 8 →
            u.line.tx = (txRequest s.line.tx kindOdoAnnounce none (announceData u.acc)).queue)) ∧
        u.acc.fuelBase = s.acc.fuelBase ∧ u.acc.fuelRes = s.acc.fuelRes ∧ u.acc.fillFuel = s.acc.fillFuel ∧
        u.acc.ring = s.acc.ring ∧ u.acc.speed = s.acc.speed ∧ u.sig = s.sig ∧ u.mem = s.mem ∧ u.gauges = s.gauges ∧
        u.warn = s.warn ∧ u.chime = s.chime ∧ u.readout = s.readout)) ∧
  (∀ (s : State) (count : Word) (rebound : Bool),
      let based : State := { s with acc := { s.acc with fuelBase := some count } }
      (rebound = true ∨ s.acc.fuelBase = none → s.fuelCount count rebound = based) ∧
      (∀ b, rebound = false → s.acc.fuelBase = some b → 1023 < (count - b).toNat →
        s.fuelCount count rebound =
          { based with tally := { s.tally with fuelGaps := min (s.tally.fuelGaps + 1) 65535 } }) ∧
      (∀ b, rebound = false → s.acc.fuelBase = some b → (count - b).toNat ≤ 1023 →
        let d := (count - b).toNat
        let ml := (s.acc.fuelRes + d * 1000) / s.cal.kFuel
        ∃ trip, s.fuelCount count rebound =
            { s with
              acc := { s.acc with
                fuelBase := some count, fillFuel := min (s.acc.fillFuel + d) 65535
                fuelRes := (s.acc.fuelRes + d * 1000) % s.cal.kFuel }
              trip := trip } ∧
          (ml = 0 → trip = s.trip) ∧
          (0 < ml →
            (trip.a, trip.snapA) = recordAdd s.trip.a s.trip.snapA 0 ml 0 ∧
            (trip.b, trip.snapB) = recordAdd s.trip.b s.trip.snapB 0 ml 0 ∧
            (trip.winDist, trip.winFuel) =
              (if 999999 < s.trip.winFuel + ml then (s.trip.winDist / 2, s.trip.winFuel / 2 + ml)
               else (s.trip.winDist, s.trip.winFuel + ml)) ∧
            trip.f = s.trip.f ∧ trip.received = s.trip.received ∧ trip.fastFill = s.trip.fastFill)))

/-- WARN_ACK (R95): ignored where it is too short, names no entry or may not act; otherwise an ACTIVE entry is acknowledged
and its chime entry removed, a QUIET or PENDING one takes a mark of 2,000 ms, an ACKED one is unchanged. That this holds for an
edge entry in ACKED too is R95's word against R92's (DEDUCED, log 38). -/
def Obligations.WarnAckFrame : Prop :=
  ∀ (s : State) (f : Stored) (rest : List Stored),
    (s.pw.state = .standby ∨ s.pw.state = .active ∨ s.pw.state = .crank) → s.line.inbound = f :: rest →
    f.frame.kind = 4#5 →
    let n := (f.frame.byte 1).toNat
    let taken : State :=
      { s with line := { s.line with
          inbound := rest, holding := if rest.length ≤ s.line.resume then false else s.line.holding } }
    (f.frame.data.length < 2 ∨ s.warn.entry n = none ∨ (s.warn.table.length ≤ 32 ∧ 31 < n) →
      exec .warnAck s = .next taken.finish) ∧
    (∀ e, 2 ≤ f.frame.data.length → s.warn.entry n = some e →
      ((f.frame.byte 2).getLsbD 7 = true ∧ e.cfg.passAck = false ∨ e.state = .acked →
        exec .warnAck s = .next taken.finish) ∧
      (((f.frame.byte 2).getLsbD 7 = false ∨ e.cfg.passAck = true) → e.state = .active →
        exec .warnAck s = .next (State.finish
          { taken with
            warn := s.warn.setEntry n { e with state := if e.cfg.trigger = .level then .acked else .quiet }
            chime := s.chime.remove s.pw.time n })) ∧
      (((f.frame.byte 2).getLsbD 7 = false ∨ e.cfg.passAck = true) → e.state = .quiet ∨ e.state = .pending →
        exec .warnAck s = .next (State.finish
          { taken with warn := s.warn.setEntry n { e with mark := some (s.pw.time + 2000) } })))

/-- SERVICE_RESET (R126): the named item takes the smaller odometer baseline, the frame's day and the own whole hours, is
evaluated, and a SERVICE write is placed; a short frame or an item above 5 is ignored. SERVICE_RESET_KEY in ACTIVE (R123 to
R125): accepted at the FRONT cluster at standstill with the engine off, the item takes the present odometer, day and hours, an
ODOMETER and a SERVICE write and a frame are queued, and the key click is asked for; otherwise refused. That no composition follows
this key is DEDUCED (log 18). -/
def Obligations.ServiceResets : Prop :=
  (∀ (s : State) (f : Stored) (rest : List Stored),
      (s.pw.state = .standby ∨ s.pw.state = .active ∨ s.pw.state = .crank) → s.line.inbound = f :: rest →
      f.frame.kind = 7#5 →
      let n := (f.frame.byte 1).toNat
      let taken : State :=
        { s with line := { s.line with
            inbound := rest, holding := if rest.length ≤ s.line.resume then false else s.line.holding } }
      let odo := (f.frame.byte 2).toNat * 65536 + (f.frame.byte 3).toNat * 256 + (f.frame.byte 4).toNat
      let day := (f.frame.byte 5).toNat * 256 + (f.frame.byte 6).toNat
      (f.frame.data.length < 6 ∨ 5 < n → exec .serviceReset s = .next taken.finish) ∧
      (∀ x, 6 ≤ f.frame.data.length → n ≤ 5 → s.service.items[n]? = some x →
        let based : ServiceItem :=
          { x with odoBase := min odo s.acc.odo, dayBase := day, hoursBase := s.service.hours / 10 }
        let items := s.service.items.set n
          { based with state := itemState based s.acc.odo s.readout.day s.service.hours }
        exec .serviceReset s = .next (State.finish
          { taken with service := { s.service with items := items }
                       pw := { s.pw with queue := writeRequest s.pw.queue .service (serviceWords items) } }))) ∧
  (∀ (s : State) (f : Stored) (rest : List Stored),
      s.pw.state = .active → s.line.inbound = f :: rest → f.frame.kind = 3#5 → 3 ≤ f.frame.data.length →
      (f.frame.byte 2).toNat = 9 →
      ((f.frame.byte 1).toNat = 2 ∨ ((f.frame.byte 1).toNat = 0 ∧ s.pw.role = .front) ∨
        ((f.frame.byte 1).toNat = 1 ∧ s.pw.role = .rear)) →
      (∀ l, s.readout.lastKey = some l → ¬ (l.source = f.frame.source ∧ l.target = f.frame.byte 1 ∧
        l.code = f.frame.byte 2 ∧ l.arg = f.frame.byte 3 ∧ f.arrival < l.arrival + 60)) →
      let n := (f.frame.byte 3).toNat
      let taken : State :=
        { s with readout := { s.readout with
                   lastKey := some { source := f.frame.source, target := f.frame.byte 1, code := f.frame.byte 2,
                                     arg := f.frame.byte 3, arrival := f.arrival } }
                 line := { s.line with
                   inbound := rest, holding := if rest.length ≤ s.line.resume then false else s.line.holding } }
      let accepted : Prop := s.pw.role = .front ∧ s.sig.chassisHdr.fresh = .fresh ∧ s.acc.speed = 0 ∧
        s.sig.engineHdr.fresh = .fresh ∧ s.sig.engine.speed < 400 ∧ n ≤ 5
      (∀ x, accepted → s.service.items[n]? = some x →
        let based : ServiceItem :=
          { x with odoBase := s.acc.odo, dayBase := s.readout.day, hoursBase := s.service.hours / 10 }
        let items := s.service.items.set n
          { based with state := itemState based s.acc.odo s.readout.day s.service.hours }
        let saved := if s.acc.odoUnknown then s.pw.queue
                     else writeRequest s.pw.queue .odometer (slotWords s.acc.odo)
        exec .serviceResetKey s = .next (State.finish (State.keyClick (State.sendFrame
          { taken with service := { s.service with items := items }
                       pw := { s.pw with queue := writeRequest saved .service (serviceWords items) } }
          kindServiceReset (some n)
          [BitVec.ofNat 8 n, byteOf s.acc.odo 2, byteOf s.acc.odo 1, byteOf s.acc.odo 0, byteOf s.readout.day 1,
           byteOf s.readout.day 0])))) ∧
      (¬ accepted → exec .serviceResetKey s = .next taken.refusalClick.finish))

/-- ODO_ANNOUNCE (R31, R32): the table of adoption, disagreement and ignoring, with the write and the announcement of an
adoption; nothing else changes. -/
def Obligations.OdoAnnounceFrame : Prop :=
  ∀ (s : State) (f : Stored) (rest : List Stored),
    (s.pw.state = .standby ∨ s.pw.state = .active ∨ s.pw.state = .crank) → s.line.inbound = f :: rest →
    f.frame.kind = 8#5 →
    let peer := min 9999999
      ((f.frame.byte 1).toNat * 65536 + (f.frame.byte 2).toNat * 256 + (f.frame.byte 3).toNat)
    let taken : State :=
      { s with line := { s.line with
          inbound := rest, holding := if rest.length ≤ s.line.resume then false else s.line.holding } }
    let ignored : Prop := f.frame.data.length < 4 ∨ (f.frame.byte 4).getLsbD 7 = true
    let adopts : Nat → Prop := fun value =>
      let items : List ServiceItem :=
        if value / 10 = s.acc.odo / 10 then s.service.items
        else s.service.items.map (fun x => { x with state := itemState x value s.readout.day s.service.hours })
      exec .odoAnnounce s = .next (State.finish (State.sendFrame
        { taken with
          acc := { s.acc with
            odo := value, odoUnknown := false
            unknownTimer := if s.acc.odoUnknown then none else s.acc.unknownTimer
            unknownCond := if s.acc.odoUnknown then false else s.acc.unknownCond }
          service := { s.service with items := items }
          pw := { s.pw with queue := writeRequest s.pw.queue .odometer (slotWords value) } }
        kindOdoAnnounce none [byteOf value 2, byteOf value 1, byteOf value 0, 0#8]))
    (ignored → exec .odoAnnounce s = .next taken.finish) ∧
    (¬ ignored → s.acc.odoUnknown = true → adopts (max s.acc.odo peer)) ∧
    (¬ ignored → s.acc.odoUnknown = false → s.acc.odo < peer → peer ≤ s.acc.odo + 500 → adopts peer) ∧
    (¬ ignored → s.acc.odoUnknown = false → s.acc.odo + 500 < peer →
      exec .odoAnnounce s = .next (State.finish
        { taken with acc := { s.acc with disagree := true }
                     tally := { s.tally with odometerDisagree := min (s.tally.odometerDisagree + 1) 255 } })) ∧
    (¬ ignored → s.acc.odoUnknown = false → peer ≤ s.acc.odo → exec .odoAnnounce s = .next taken.finish)

/-- CLOCK (R143): at FRONT ignored; at REAR ignored when short, out of range or of the day before just after midnight; else the
time is taken, the flag cleared, and a higher day is a day step. OPTIONS (R180): the first frame of full length after a reset
is taken, with its clamps; a short one, or one while the flag is set, is discarded. -/
def Obligations.ClockAndOptionsFrames : Prop :=
  (∀ (s : State) (f : Stored) (rest : List Stored),
      (s.pw.state = .standby ∨ s.pw.state = .active ∨ s.pw.state = .crank) → s.line.inbound = f :: rest →
      f.frame.kind = 9#5 →
      let h := (f.frame.byte 1).toNat
      let m := (f.frame.byte 2).toNat
      let sec := (f.frame.byte 3).toNat
      let day := (f.frame.byte 4).toNat * 256 + (f.frame.byte 5).toNat
      let taken : State :=
        { s with line := { s.line with
            inbound := rest, holding := if rest.length ≤ s.line.resume then false else s.line.holding } }
      let ignored : Prop := s.pw.role = .front ∨ f.frame.data.length < 5 ∨ 23 < h ∨ 59 < m ∨ 59 < sec ∨
        (day + 1 = s.readout.day ∧ s.readout.hour = 0 ∧ s.readout.minute = 0)
      let set : Nat → Readout := fun d =>
        { s.readout with hour := h, minute := m, second := sec, unset := false, day := d }
      (ignored → exec .clock s = .next taken.finish) ∧
      (¬ ignored → day ≤ s.readout.day →
        exec .clock s = .next (State.finish { taken with readout := set s.readout.day })) ∧
      (¬ ignored → s.readout.day < day →
        exec .clock s = .next (State.finish
          { taken with
            readout := set day
            pw := { s.pw with queue := writeRequest s.pw.queue .counters (countersWords s.service.hours day) }
            service := { s.service with
              items := s.service.items.map (fun x =>
                { x with state := itemState x s.acc.odo day s.service.hours }) } }))) ∧
  (∀ (s : State) (f : Stored) (rest : List Stored),
      (s.pw.state = .standby ∨ s.pw.state = .active ∨ s.pw.state = .crank) → s.line.inbound = f :: rest →
      f.frame.kind = 10#5 →
      let b : Nat → Nat := fun k => (f.frame.byte k).toNat
      let taken : State :=
        { s with line := { s.line with
            inbound := rest, holding := if rest.length ≤ s.line.resume then false else s.line.holding } }
      (f.frame.data.length < 4 ∨ s.pw.optionsTaken = true → exec .options s = .next taken.finish) ∧
      (4 ≤ f.frame.data.length → s.pw.optionsTaken = false →
        exec .options s = .next (State.finish
          { taken with
            pw := { s.pw with
              optionsTaken := true
              units := if b 1 = 0 then .metric else if b 1 = 1 then .us else if b 1 = 2 then .imperial else s.cal.units
              overspeed := if b 2 = 0 then 0 else if b 2 < 30 then 30 else if 250 < b 2 then 250 else b 2
              volume := if b 3 = 0 then 1 else if 4 < b 3 then 4 else b 3
              clock12 := if b 4 = 0 then false else if b 4 = 1 then true else s.cal.clock12 } })))

/-- STATUS (R161, R162): a frame with the own station number sets the clash flag alone; an empty one changes nothing; any other
moves its station's record by its outcome against the last value, and no other record. The sequence (R159): the seed of a
station is its number plus 1, the sequence passes through all 127 values, and 0 never counts as a hit. -/
def Obligations.StatusFrame : Prop :=
  (∀ (s : State) (f : Stored) (rest : List Stored),
      (s.pw.state = .standby ∨ s.pw.state = .active ∨ s.pw.state = .crank) → s.line.inbound = f :: rest →
      f.frame.kind = 11#5 → s.peer.stations.length = 16 →
      let taken : State :=
        { s with line := { s.line with
            inbound := rest, holding := if rest.length ≤ s.line.resume then false else s.line.holding } }
      (f.frame.source = s.pw.station →
        exec .status s = .next (State.finish { taken with peer := { s.peer with clash := true } })) ∧
      (f.frame.source ≠ s.pw.station → f.frame.data = [] → exec .status s = .next taken.finish) ∧
      (∀ b bytes, f.frame.source ≠ s.pw.station → f.frame.data = b :: bytes →
        let v : BitVec 7 := BitVec.ofNat 7 b.toNat
        let r := s.peer.station f.frame.source
        let o := statusOutcome (r.last.getD 0#7) v
        let window := (r.window ++ [o]).drop (r.window.length - 15)
        ∃ r', exec .status s = .next (State.finish
            { taken with peer := { s.peer with stations := s.peer.stations.set f.frame.source.toNat r' } }) ∧
          r'.last = some v ∧ r'.lastTime = f.arrival ∧
          (r.state = .absent → r' = { r with
            state := .hunt, last := some v, hitRun := 0, window := [], lastTime := f.arrival, seen := true }) ∧
          (r.state ≠ .absent →
            r'.seen = r.seen ∧ r'.tallies.absents = r.tallies.absents ∧
            r'.tallies.hits = (if o = .hit then min (r.tallies.hits + 1) 65535 else r.tallies.hits) ∧
            r'.tallies.misses = (if o = .miss then min (r.tallies.misses + 1) 65535 else r.tallies.misses) ∧
            r'.tallies.mismatches =
              (if o = .mismatch then min (r.tallies.mismatches + 1) 65535 else r.tallies.mismatches)) ∧
          (r.state = .hunt →
            (o = .hit → 1 ≤ r.hitRun → r'.state = .sync ∧ r'.hitRun = 0 ∧ r'.window = []) ∧
            (o = .hit → r.hitRun = 0 → r'.state = .hunt ∧ r'.hitRun = 1 ∧ r'.window = r.window) ∧
            (o ≠ .hit → r'.state = .hunt ∧ r'.hitRun = 0 ∧ r'.window = r.window) ∧
            r'.tallies.slips = r.tallies.slips) ∧
          (r.state = .sync → r.window.length ≤ 16 → r'.window = window ∧
            (4 ≤ window.count .mismatch →
              r'.state = .slip ∧ r'.hitRun = 0 ∧ r'.tallies.slips = min (r.tallies.slips + 1) 255) ∧
            (window.count .mismatch < 4 → r'.state = .sync ∧ r'.tallies.slips = r.tallies.slips)) ∧
          (r.state = .slip → r.window.length ≤ 16 →
            (o = .hit → 1 ≤ r.hitRun → r'.state = .sync ∧ r'.hitRun = 0 ∧ r'.window = []) ∧
            (o = .hit → r.hitRun = 0 → r'.state = .slip ∧ r'.hitRun = 1 ∧ r'.window = window) ∧
            (o ≠ .hit → r'.state = .slip ∧ r'.hitRun = 0 ∧ r'.window = window) ∧
            r'.tallies.slips = r.tallies.slips))) ∧
  ((∀ v : BitVec 7, nextSequence v =
      BitVec.ofNat 7 (v.toNat * 2 % 128 + (v.toNat / 64 + v.toNat / 32) % 2)) ∧
    (∀ n : StationNo, (sequenceSeed n).toNat = n.toNat + 1) ∧
    (∀ v : BitVec 7, v ≠ 0#7 → (nextSequence^[127]) v = v ∧ ∀ k, 0 < k → k < 127 → (nextSequence^[k]) v ≠ v) ∧
    (∀ l v : BitVec 7,
      (statusOutcome l v = .hit ↔ v ≠ 0#7 ∧ l ≠ 0#7 ∧ v = nextSequence l) ∧
      (statusOutcome l v = .miss ↔ v ≠ 0#7 ∧ l ≠ 0#7 ∧ v = nextSequence (nextSequence l))))

/-- TALLY_REQUEST (R166, R167): ignored when empty, for another station, or during a report sequence; otherwise every live
tally is copied to the snapshot and set to 0, and the first part of the sequence of seen stations and index 16 is queued. -/
def Obligations.TallyRequestFrame : Prop :=
  ∀ (s : State) (f : Stored) (rest : List Stored),
    (s.pw.state = .standby ∨ s.pw.state = .active ∨ s.pw.state = .crank) → s.line.inbound = f :: rest →
    f.frame.kind = 12#5 →
    let taken : State :=
      { s with line := { s.line with
          inbound := rest, holding := if rest.length ≤ s.line.resume then false else s.line.holding } }
    let mine : Prop := f.frame.data ≠ [] ∧ (f.frame.byte 1).toNat % 16 = s.pw.station.toNat ∧ s.peer.report = []
    let snap : Snapshot := { stations := s.peer.stations.map Station.tallies, own := s.tally }
    let indices : List Nat :=
      (List.range s.peer.stations.length).filter (fun n => (s.peer.stations[n]?.map Station.seen) == some true)
    let parts : List (Nat × Nat) :=
      indices.flatMap (fun n => [(n, 1), (n, 2)]) ++ [(16, 1), (16, 2), (16, 3), (16, 4)]
    (¬ mine → exec .tallyRequest s = .next taken.finish) ∧
    (mine → s.peer.stations.length ≤ 16 → s.line.tx.length < 8 → (∀ e ∈ s.line.tx, e.kind ≠ kindTallyReport) →
      ∃ n part parts', parts = (n, part) :: parts' ∧
      exec .tallyRequest s = .next (State.finish
        { taken with
          tally := OwnTallies.zero
          peer := { s.peer with
            snapshot := snap, report := parts
            stations := s.peer.stations.map (fun r =>
              { r with tallies := { hits := 0, misses := 0, mismatches := 0, slips := 0, absents := 0 } }) }
          line := { taken.line with
            tx := (txRequest s.line.tx kindTallyReport (some n) (reportData snap n part)).queue } }))

/-- CAL_WRITE (R181): ignored when short or for another station; otherwise answered REFUSED, BUSY or OK by the first row that
applies, and written to the queue where the answer is OK. -/
def Obligations.CalWriteFrame : Prop :=
  ∀ (s : State) (f : Stored) (rest : List Stored),
    (s.pw.state = .standby ∨ s.pw.state = .active ∨ s.pw.state = .crank) → s.line.inbound = f :: rest →
    f.frame.kind = 14#5 →
    let a := (f.frame.byte 2).toNat * 256 + (f.frame.byte 3).toNat
    let taken : State :=
      { s with line := { s.line with
          inbound := rest, holding := if rest.length ≤ s.line.resume then false else s.line.holding } }
    let refused : Prop := 383 < a ∨ (s.pw.state = .active ∧ s.acc.speed ≠ 0)
    let busy : Prop := 4 ≤ calWaiting s.pw.queue ∧ ∀ e ∈ s.pw.queue, e.key ≠ .calWord a
    let reply : State → Byte → State := fun u result =>
      u.sendFrame kindCalReply (some a) [f.frame.byte 2, f.frame.byte 3, result]
    (f.frame.data.length < 5 ∨ (f.frame.byte 1).toNat % 16 ≠ s.pw.station.toNat →
      exec .calWrite s = .next taken.finish) ∧
    (5 ≤ f.frame.data.length → (f.frame.byte 1).toNat % 16 = s.pw.station.toNat →
      (refused → exec .calWrite s = .next (reply taken 1#8).finish) ∧
      (¬ refused → busy → exec .calWrite s = .next (reply taken 2#8).finish) ∧
      (¬ refused → ¬ busy → exec .calWrite s = .next (reply
        { taken with pw := { s.pw with
            queue := writeRequest s.pw.queue (.calWord a) [f.frame.byte 4 ++ f.frame.byte 5] } } 0#8).finish))

/-- LAMP, INSERT_RATE, INSERT_ONCE and RESTART (R175, R100, R168, R169): a TEST frame for this station has its effect; one for
another station, one too short or one that names no test is removed without effect. That a frame that names no test may be taken
by any of the four rows (log 8), and that RESTART sets the restart pending and the reset follows as a command of its own (log 33),
are the model's choices. -/
def Obligations.TestFrames : Prop :=
  (∀ (s : State) (f : Stored) (rest : List Stored),
        (s.pw.state = .standby ∨ s.pw.state = .active ∨ s.pw.state = .crank) → s.line.inbound = f :: rest →
        f.frame.kind = 16#5 → 3 ≤ f.frame.data.length →
        let taken : State :=
          { s with line := { s.line with
              inbound := rest, holding := if rest.length ≤ s.line.resume then false else s.line.holding } }
        let code := (f.frame.byte 2).toNat
        ((f.frame.byte 1).toNat % 16 = s.pw.station.toNat →
          (code = 1 → exec .lamp s = .next (State.finish
            { taken with warn := { s.warn with lampTest := some (s.pw.time + 3000) } })) ∧
          (code = 2 → exec .insertRate s = .next (State.finish
            { taken with peer := { s.peer with rate := min 3 (f.frame.byte 3).toNat, count := 0 } })) ∧
          (code = 3 → exec .insertOnce s = .next (State.finish { taken with peer := { s.peer with once := true } })) ∧
          (code = 4 → exec .restart s = .next (State.finish { taken with pw := { s.pw with restartPending := true } }))) ∧
        ((f.frame.byte 1).toNat % 16 ≠ s.pw.station.toNat →
          ∀ p ∈ [(1, Instr.lamp), (2, .insertRate), (3, .insertOnce), (4, .restart)],
            code = p.1 → exec p.2 s = .next taken.finish)) ∧
  (∀ (s : State) (f : Stored) (rest : List Stored),
      (s.pw.state = .standby ∨ s.pw.state = .active ∨ s.pw.state = .crank) → s.line.inbound = f :: rest →
      f.frame.kind = 16#5 →
      let taken : State :=
        { s with line := { s.line with
            inbound := rest, holding := if rest.length ≤ s.line.resume then false else s.line.holding } }
      (f.frame.data.length < 3 ∨ (f.frame.byte 2).toNat = 0 ∨ 4 < (f.frame.byte 2).toNat) →
        ∀ c ∈ [Instr.lamp, .insertRate, .insertOnce, .restart], exec c s = .next taken.finish)

/-! ## Keys -/

/-- A KEY frame that is taken (R138) is recorded, and its key is then treated by its code and the power state: the readout's own
keys (R133, R137, R139), TRIP RESET with its refusal (R38, R139), HOUR and MINUTE (R141, R142), CALL (R86). That TRIP RESET asks
whether a text covers the page by what the readout shows, and that no composition follows CALL, is DEDUCED (log 18). -/
def Obligations.KeysTaken : Prop :=
  ∀ (s : State) (f : Stored) (rest : List Stored),
    (s.pw.state = .standby ∨ s.pw.state = .active ∨ s.pw.state = .crank) → s.line.inbound = f :: rest →
    f.frame.kind = 3#5 → 3 ≤ f.frame.data.length →
    ((f.frame.byte 1).toNat = 2 ∨ ((f.frame.byte 1).toNat = 0 ∧ s.pw.role = .front) ∨
      ((f.frame.byte 1).toNat = 1 ∧ s.pw.role = .rear)) →
    (∀ l, s.readout.lastKey = some l → ¬ (l.source = f.frame.source ∧ l.target = f.frame.byte 1 ∧
      l.code = f.frame.byte 2 ∧ l.arg = f.frame.byte 3 ∧ f.arrival < l.arrival + 60)) →
    let recorded : Readout :=
      { s.readout with lastKey := some { source := f.frame.source, target := f.frame.byte 1, code := f.frame.byte 2,
                                         arg := f.frame.byte 3, arrival := f.arrival } }
    let taken : State :=
      { s with readout := recorded
               line := { s.line with
                 inbound := rest, holding := if rest.length ≤ s.line.resume then false else s.line.holding } }
    let click : State → Bool → State := fun u refusal =>
      if u.chime.mode = .idle ∨ u.chime.mode = .click then
        { u with chime := { u.chime with
            mode := .click, click := some { refusal := refusal, start := u.pw.time, second := false } } }
      else u
    let code := (f.frame.byte 2).toNat
    let active : Prop := s.pw.state = .active
    let clockTaken : Prop := s.pw.role = .front ∧ (s.pw.state = .standby ∨ s.pw.state = .active)
    let clear : Prop := ∀ text ∈ textTable, padRight 10 text ≠ s.readout.message
    let resettable : Prop := s.readout.page ∈ [Page.avgEconomy, .avgSpeed, .elapsed, .fuelUsed, .lastTrip] ∧ clear
    (code = 1 → active → exec .pageNext s = .next (State.finish (click (State.compose
      { taken with readout := recorded.turnTo (nextPage s.pw.role s.readout.page) }) false))) ∧
    (code = 2 → active → exec .pageBack s = .next (State.finish (click (State.compose
      { taken with readout := recorded.turnTo (previousPage s.pw.role s.readout.page) }) false))) ∧
    (code = 3 → active → exec .tripSelect s = .next (State.finish (click (State.compose
      { taken with readout := { recorded with
          tripSel := if s.readout.tripSel = .a then .b else .a, rotPos := .distance, rotCount := 0 } }) false))) ∧
    (code = 4 → active → resettable → exec .tripReset s = .next (State.finish (click (State.compose
      { taken with trip := s.trip.reset s.readout.tripSel }) false))) ∧
    (code = 4 → active → ¬ resettable → exec .tripReset s = .next (click taken true).finish) ∧
    (code = 5 → active → exec .odoSelect s = .next (State.finish (click (State.compose
      { taken with readout := { recorded with odoSel := match s.readout.odoSel with
          | .odometer => .tripA
          | .tripA => .tripB
          | .tripB => .odometer } }) false))) ∧
    (code = 7 → clockTaken → exec .hour s = .next (State.finish (State.sendClock (click (State.compose
      { taken with readout := { recorded with hour := (s.readout.hour + 1) % 24, unset := false } }) false)))) ∧
    (code = 8 → clockTaken → exec .minute s = .next (State.finish (State.sendClock (click (State.compose
      { taken with readout := { recorded with
          minute := (s.readout.minute + 1) % 60, second := 0, unset := false } }) false)))) ∧
    (code = 10 → s.pw.role = .front → s.pw.state ≠ .standby → exec .call s = .next (State.finish (click
      { taken with warn := { s.warn with callPending := true } } false))) ∧
    (code = 10 → s.pw.role = .rear ∨ s.pw.state = .standby → exec .call s = .next taken.finish) ∧
    (¬ active → ∀ p ∈ [(1, Instr.pageNext), (2, .pageBack), (3, .tripSelect), (4, .tripReset), (5, .odoSelect),
                       (9, .serviceResetKey)],
      code = p.1 → exec p.2 s = .next taken.finish) ∧
    (¬ clockTaken → (code = 7 → exec .hour s = .next taken.finish) ∧ (code = 8 → exec .minute s = .next taken.finish))

/-- The pages in their cyclic order (R133), and a reset of the selected trip record (R38): a record that holds anything goes to
its snapshot and is cleared, an empty one leaves its snapshot; the other record and the window stay. -/
def Obligations.PagesAndTripReset : Prop :=
  (∀ r : Role, ((pageList r).map (nextPage r)) = (pageList r).rotateLeft 1 ∧
    ∀ p ∈ pageList r, previousPage r (nextPage r p) = p ∧ nextPage r (previousPage r p) = p) ∧
  pageList .front = [.clock, .range, .avgEconomy, .currentEconomy, .avgSpeed, .elapsed, .fuelUsed, .lastTrip, .service,
                     .outsideTemp] ∧
  pageList .rear = [.clock, .range, .avgSpeed, .elapsed, .lastTrip, .outsideTemp] ∧
  (∀ (r : Readout) (p : Page),
    (p = .lastTrip → r.turnTo p = { r with page := p, rotPos := .distance, rotCount := 0 }) ∧
    (p ≠ .lastTrip → r.turnTo p = { r with page := p })) ∧
  (∀ t : Trip,
    (¬ (t.a.dist = 0 ∧ t.a.fuel = 0 ∧ t.a.elapsed = 0) →
      t.reset .a = { t with a := { dist := 0, fuel := 0, elapsed := 0 }, snapA := t.a }) ∧
    (t.a.dist = 0 ∧ t.a.fuel = 0 ∧ t.a.elapsed = 0 → t.reset .a = t) ∧
    (¬ (t.b.dist = 0 ∧ t.b.fuel = 0 ∧ t.b.elapsed = 0) →
      t.reset .b = { t with b := { dist := 0, fuel := 0, elapsed := 0 }, snapB := t.b }) ∧
    (t.b.dist = 0 ∧ t.b.fuel = 0 ∧ t.b.elapsed = 0 → t.reset .b = t))

/-- ACKNOWLEDGE (R93, R94): in STANDBY and ACTIVE the foremost warning is acknowledged if the role may, its chime entry is
removed and a WARN ACK queued; the click is asked for in every case; in CRANK the key is ignored. That no composition follows this
key is DEDUCED (log 18). -/
def Obligations.AcknowledgeKey : Prop :=
  ∀ (s : State) (f : Stored) (rest : List Stored),
    (s.pw.state = .standby ∨ s.pw.state = .active ∨ s.pw.state = .crank) → s.line.inbound = f :: rest →
    f.frame.kind = 3#5 → 3 ≤ f.frame.data.length → (f.frame.byte 2).toNat = 6 →
    ((f.frame.byte 1).toNat = 2 ∨ ((f.frame.byte 1).toNat = 0 ∧ s.pw.role = .front) ∨
      ((f.frame.byte 1).toNat = 1 ∧ s.pw.role = .rear)) →
    (∀ l, s.readout.lastKey = some l → ¬ (l.source = f.frame.source ∧ l.target = f.frame.byte 1 ∧
      l.code = f.frame.byte 2 ∧ l.arg = f.frame.byte 3 ∧ f.arrival < l.arrival + 60)) →
    let taken : State :=
      { s with readout := { s.readout with
                 lastKey := some { source := f.frame.source, target := f.frame.byte 1, code := f.frame.byte 2,
                                   arg := f.frame.byte 3, arrival := f.arrival } }
               line := { s.line with
                 inbound := rest, holding := if rest.length ≤ s.line.resume then false else s.line.holding } }
    (s.pw.state = .crank → exec .acknowledge s = .next taken.finish) ∧
    (s.pw.state ≠ .crank → foremost s = none → exec .acknowledge s = .next taken.keyClick.finish) ∧
    (∀ n e, s.pw.state ≠ .crank → foremost s = some n → s.warn.entry n = some e →
      s.pw.role = .rear ∧ e.cfg.passAck = false → exec .acknowledge s = .next taken.keyClick.finish) ∧
    (∀ n e, s.pw.state ≠ .crank → foremost s = some n → s.warn.entry n = some e →
      s.pw.role = .front ∨ e.cfg.passAck = true →
      exec .acknowledge s = .next (State.finish (State.keyClick (State.sendFrame
        { taken with
          warn := s.warn.setEntry n { e with state := if e.cfg.trigger = .level then .acked else .quiet }
          chime := s.chime.remove s.pw.time n }
        kindWarnAck (some n) [BitVec.ofNat 8 n, if s.pw.role = .rear then 0x80#8 else 0#8])))) ∧
    (∀ e q, s.chime.queue = e :: q → foremost s = some e.warning) ∧
    (foremost s = none ↔ s.chime.queue = [] ∧ ∀ m x, s.warn.entry m = some x → x.state = .active →
      x.cfg.audience.includes s.pw.role = false) ∧
    (∀ n, s.chime.queue = [] → foremost s = some n →
      ∃ w, s.warn.entry n = some w ∧ w.state = .active ∧ w.cfg.audience.includes s.pw.role = true ∧
        ∀ m x, s.warn.entry m = some x → x.state = .active → x.cfg.audience.includes s.pw.role = true →
          w.cfg.cls.rank < x.cfg.cls.rank ∨
            (w.cfg.cls.rank = x.cfg.cls.rank ∧ w.raise.getD 0 ≤ x.raise.getD 0))

/-! ## Tones, chimes and writes -/

/-- SECOND_CLICK and CLICK_END (R111, R112), PATTERN_STEP_END (R107) and PATTERN_END (R108): each at its time; a pattern that
ends takes its entry out of the queue, is reported, and the new head starts at its first step. -/
def Obligations.ToneEvents : Prop :=
  ∀ s : State,
    (∀ c : Click, s.chime.mode = .click → s.chime.click = some c →
      (c.refusal = true → c.second = false →
        exec .secondClick s = .next (State.finish
          { s with pw := { s.pw with time := max s.pw.time (c.start + 80) }
                   chime := { s.chime with click := some { refusal := true, start := c.start, second := true } } })) ∧
      (c.refusal = true → c.second = true →
        exec .clickEnd s = .next (State.finish
          { s with pw := { s.pw with time := max s.pw.time (c.start + 95) }
                   chime := { s.chime with mode := .idle, click := none } })) ∧
      (c.refusal = false →
        exec .clickEnd s = .next (State.finish
          { s with pw := { s.pw with time := max s.pw.time (c.start + 15) }
                   chime := { s.chime with mode := .idle, click := none } }))) ∧
    (∀ (e : ChimeEntry) (q : List ChimeEntry) (st : PatternStep), s.chime.mode = .pattern → s.chime.queue = e :: q →
      s.chime.playing = some e.warning → s.chime.step = some st →
      let stepped : Nat → Nat → State := fun index length =>
        { s with pw := { s.pw with time := max s.pw.time st.ends }
                 chime := { s.chime with step := some { index := index, ends := st.ends + length } } }
      (e.cls = .a → st.index = 0 → exec .patternStepEnd s = .next (stepped 1 400).finish) ∧
      (e.cls = .a → st.index = 1 → exec .patternStepEnd s = .next (stepped 0 600).finish) ∧
      (e.cls = .b → st.index < 5 → exec .patternStepEnd s = .next (stepped (st.index + 1) 150).finish) ∧
      ((e.cls = .b ∧ st.index = 5) ∨ (e.cls = .c ∧ st.index = 0) →
        let now := max s.pw.time st.ends
        let left := q.filter (fun x => x.warning != e.warning)
        let next : Chimes := match left with
          | [] => { queue := [], mode := .idle, playing := none, step := none, click := none }
          | h :: more =>
            { queue := h :: more, mode := .pattern, playing := some h.warning, click := none
              step := some { index := 0, ends := now + match h.cls with
                | .a => 600
                | .b => 150
                | .c => 400 } }
        let ended : State := { s with pw := { s.pw with time := now }, chime := next }
        (∀ w, s.warn.entry e.warning = some w → w.cfg.trigger ≠ .level → w.state = .active →
          exec .patternEnd s = .next (State.finish
            { ended with warn := s.warn.setEntry e.warning { w with state := .quiet } })) ∧
        ((∀ w, s.warn.entry e.warning = some w → w.cfg.trigger = .level ∨ w.state ≠ .active) →
          exec .patternEnd s = .next ended.finish)))

/-- A chime offer (R103, R105, R109) to a queue in playing order: nothing for a warning it holds; inserted behind its class;
at a full queue the last entry displaced by a better class, or a refusal; a newcomer at the head starts its pattern at once,
and a class C entry it cuts leaves the queue with a report; while the tone is SILENT it waits at the head. A removal on request
(R104): nothing for a warning it does not hold; otherwise the entry leaves and every other is kept in its order. Where its pattern
was playing, the new head starts at its first step (R107, R108), or the tone is IDLE at an empty queue; otherwise the tone stays as
it was, a click in progress with it. -/
def Obligations.ChimeOffer : Prop :=
  (∀ (c : Chimes) (now w : Nat) (k : Sys2Proof.Machine.Class),
    c.queue.Pairwise (fun x y => x.cls.rank ≤ y.cls.rank) →
    let new : ChimeEntry := { warning := w, cls := k }
    let r := c.offer now w k
    (c.holds w = true → r = { chime := c, reports := [], displaced := false }) ∧
    (c.holds w = false → 8 ≤ c.queue.length → (∀ x ∈ c.queue, x.cls.rank ≤ k.rank) →
      r = { chime := c, reports := [], displaced := true }) ∧
    (c.holds w = false → c.queue.length < 8 → (∃ x ∈ c.queue, x.cls.rank ≤ k.rank) →
      r.reports = [] ∧ r.displaced = false ∧
      ∃ front back, c.queue = front ++ back ∧ r.chime = { c with queue := front ++ new :: back } ∧
        (∀ x ∈ front, x.cls.rank ≤ k.rank) ∧ ∀ x ∈ back, k.rank < x.cls.rank) ∧
    (∀ front last, c.holds w = false → 8 ≤ c.queue.length → c.queue = front ++ [last] → k.rank < last.cls.rank →
      r.displaced = true ∧ last.warning ∈ r.reports ∧ new ∈ r.chime.queue ∧
      (∀ x ∈ r.chime.queue, x = new ∨ x ∈ front)) ∧
    (c.holds w = false → c.queue.length < 8 → (∀ x ∈ c.queue, k.rank < x.cls.rank) → c.mode ≠ .silent →
      (c.mode = .pattern → ∃ e q, c.queue = e :: q ∧ c.playing = some e.warning) →
      r.displaced = false ∧ r.chime.mode = .pattern ∧ r.chime.playing = some w ∧
      r.chime.step = some { index := 0, ends := now + stepLength k 0 } ∧ r.chime.click = none ∧
      (c.mode = .pattern → ∀ e q, c.queue = e :: q → c.playing = some e.warning → e.cls = .c →
        r.reports = [e.warning] ∧ r.chime.queue = new :: q.filter (fun x => x.warning != e.warning)) ∧
      (c.mode = .pattern → ∀ e q, c.queue = e :: q → c.playing = some e.warning → e.cls = .b →
        r.reports = [] ∧ r.chime.queue = new :: c.queue) ∧
      (c.mode ≠ .pattern → r.reports = [] ∧ r.chime.queue = new :: c.queue)) ∧
    (c.holds w = false → c.queue.length < 8 → (∀ x ∈ c.queue, k.rank < x.cls.rank) → c.mode = .silent →
      r = { chime := { c with queue := new :: c.queue }, reports := [], displaced := false })) ∧
  (∀ (c : Chimes) (now w : Nat),
    let others := c.queue.filter (fun x => x.warning != w)
    (c.holds w = true ↔ ∃ x ∈ c.queue, x.warning = w) ∧
    (c.holds w = false → c.remove now w = c) ∧
    (c.holds w = true → ¬ (c.mode = .pattern ∧ c.playing = some w) → c.remove now w = { c with queue := others }) ∧
    (c.holds w = true → c.mode = .pattern → c.playing = some w →
      (others = [] →
        c.remove now w = { queue := [], mode := .idle, playing := none, step := none, click := none }) ∧
      (∀ e q, others = e :: q →
        c.remove now w =
          { queue := e :: q, mode := .pattern, playing := some e.warning
            step := some { index := 0, ends := now + (match e.cls with
              | .a => 600
              | .b => 150
              | .c => 400) }
            click := none })))

/-- WRITE_BEGIN and WRITE_COMPLETE (R28, R177, R179, R181): the ODOMETER entry goes first and to the slot after the current one;
a completed write puts its words at their addresses and leaves every other word as it was; its requester is told. A write
beyond the 512 words, which no run from reset makes, faults (MODEL'S CHOICE, log 30). -/
def Obligations.Writes : Prop :=
  ∀ s : State,
    ((s.pw.state = .stabilise ∨ s.pw.state = .standby ∨ s.pw.state = .active ∨ s.pw.state = .crank) →
      s.pw.writing = none → ∀ e,
      (s.pw.queue.find? (fun x => x.key == .odometer) = some e ∨
        (s.pw.queue.find? (fun x => x.key == .odometer) = none ∧ s.pw.queue.head? = some e)) →
      let slot : Nat := match s.acc.slot with
        | none => 0
        | some n => (n + 1) % 8
      let base : Nat := match e.key with
        | .odometer => 384 + 2 * slot
        | .service => 400
        | .trip => 425
        | .counters => 442
        | .calWord a => a
      exec .writeBegin s = .next (State.finish
        { s with pw := { s.pw with
            queue := s.pw.queue.filter (fun x => x.key != e.key)
            writing := some { key := e.key, base := base, data := e.data, target := slot } } })) ∧
    (∀ j : WriteJob, s.pw.writing = some j → j.base + j.data.length ≤ 512 → memWf s.mem = true →
      ∃ u, exec .writeComplete s = .next u ∧ memWf u.mem = true ∧ u.pw.writing = none ∧
        (∀ n, n < j.data.length → some (memRead u.mem (j.base + n)) = j.data[n]?) ∧
        (∀ a, a < j.base ∨ j.base + j.data.length ≤ a → memRead u.mem a = memRead s.mem a) ∧
        (j.key = .odometer → u.acc = { s.acc with slot := some j.target }) ∧
        (j.key ≠ .odometer → u.acc = s.acc) ∧
        (∀ a, j.key = .calWord a → s.line.tx.length < 8 →
          u.line = { s.line with
            tx := (txRequest s.line.tx kindCalReply (some a) [byteOf a 1, byteOf a 0, 3#8]).queue }) ∧
        ((∀ a, j.key ≠ .calWord a) → u.line = s.line) ∧
        u.pins = s.pins ∧ u.cal = s.cal ∧ u.sig = s.sig ∧ u.trip = s.trip ∧ u.gauges = s.gauges ∧ u.chime = s.chime ∧
        u.service = s.service ∧ u.readout = s.readout ∧ u.pw.queue = s.pw.queue ∧ u.pw.state = s.pw.state ∧
        u.pending = s.pending) ∧
    (∀ j : WriteJob, s.pw.writing = some j → 512 < j.base + j.data.length →
      exec .writeComplete s = .fault (.noSuchWord (j.base + j.data.length - 1)))

/-! ## Rules of the shared operations, as the spec numbers them -/

/-- R26, the validity of an odometer slot: the check byte, the maximum, the all-0 and the all-FFFFH words, a new memory, and the
worked case. -/
def Obligations.SlotValidity : Prop :=
  (∀ w0 w1 : Word,
    let b2 := w0.toNat / 256
    let b1 := w0.toNat % 256
    let b0 := w1.toNat / 256
    (slotValid w0 w1 = true ↔
      w1.toNat % 256 = 255 - (b2 + b1 + b0) % 256 ∧ b2 * 65536 + b1 * 256 + b0 ≤ 9999999) ∧
    slotValue w0 w1 = b2 * 65536 + b1 * 256 + b0) ∧
  (∀ (i : Image) (n : Nat), slotValid (i.word (384 + 2 * n)) (i.word (384 + 2 * n + 1)) = false → slotOf i n = none) ∧
  slotValid 0#16 0#16 = false ∧ slotValid 0xFFFF#16 0xFFFF#16 = false ∧
  (∀ (read n : Nat), slotOf { read := read, mem := [], silent := [] } n = none) ∧
  slotWords 45130 = [0x00B0#16, 0x4A05#16] ∧ slotCheck 45130 = 5#8 ∧
  (∀ v, v ≤ 9999999 → ∃ w0 w1, slotWords v = [w0, w1] ∧ slotValid w0 w1 = true ∧ slotValue w0 w1 = v)

/-- A sender value at the level filter: the first one is taken directly in any state and sets level received (R39); after it, in
ACTIVE, one is taken directly during the fast fill (R41) or makes one step, with its bounds and its direction (R40); in STANDBY and
CRANK it is not taken. -/
def Obligations.LevelFilter : Prop :=
  (∀ (t : Trip) (p : Power) (s : Nat), t.received = false →
    t.senderValue p s = { t with f := s * 256, received := true }) ∧
  ∀ (t : Trip) (p : Power) (s : Nat), t.received = true → s ≤ 255 → t.f ≤ 65280 →
    (p = .active → t.fastFill ≠ 0 → t.senderValue p s = { t with f := s * 256 }) ∧
    (p = .active → t.fastFill = 0 →
      let diff : Int := (s : Int) * 256 - t.f
      let step : Int := if diff.tdiv 16 = 0 then diff.sign else diff.tdiv 16
      ∃ f', t.senderValue p s = { t with f := f' } ∧ (f' : Int) = t.f + step ∧ f' ≤ 65280 ∧
        step.natAbs ≤ diff.natAbs ∧ (diff = 0 → f' = t.f) ∧
        (0 < diff → t.f < f' ∧ f' ≤ s * 256) ∧ (diff < 0 → f' < t.f ∧ s * 256 ≤ f')) ∧
    (p = .standby ∨ p = .crank → t.senderValue p s = t)

/-- R51 and R52, the average economy of a record: its availability, its half-up rounding, its clamp, and a trip without fuel. -/
def Obligations.AverageEconomy : Prop :=
  ∀ r : TripRecord,
    (∀ u, r.dist < 1000 → averageEconomy u r = none) ∧
    (1000 ≤ r.dist → averageEconomy .metric r = some (min 999 ((r.fuel * 1000 * 2 + r.dist) / (2 * r.dist)))) ∧
    (1000 ≤ r.dist → r.fuel = 0 → averageEconomy .metric r = some 0) ∧
    (∀ u c, u = Units.us ∧ c = 23521 ∨ u = Units.imperial ∧ c = 28248 → 1000 ≤ r.dist →
      (r.fuel = 0 → averageEconomy u r = some 999) ∧
      (r.fuel ≠ 0 → averageEconomy u r =
        some (min 999 ((r.dist * c * 2 + r.fuel * 1000) / (2 * r.fuel * 1000))))) ∧
    (∀ u x, averageEconomy u r = some x → x ≤ 999)

/-- What the readouts show (R130, R131, R134, R137, R140): a composition changes the readouts' own content alone; a foremost
warning's text covers the page in ACTIVE and CRANK; every page with its label, figure and unit: CLOCK, RANGE (R48, R49), the
economies (R51, R52, R54), AVG SPEED (R53), ELAPSED and FUEL USED (R55), LAST TRIP (R135), SERVICE (R136) and OUTSIDE TEMP (R134);
the odometer readout, and the blank states. That OUTSIDE TEMP and SERVICE show no plus sign is the model's choice (log 36,
log 21). -/
def Obligations.Readouts : Prop :=
  ∀ s : State,
    let r := s.compose.readout
    let blank : OdoReadout := { digits := List.replicate 7 ' ', point := false, sign := .none }
    let digit : Nat → Char := fun n => Char.ofNat (48 + n)
    let clock : List Char :=
      let h := if s.pw.clock12 then (if s.readout.hour % 12 = 0 then 12 else s.readout.hour % 12) else s.readout.hour
      [' ', ' ', ' ', if h < 10 then ' ' else digit (h / 10), digit (h % 10), ':', digit (s.readout.minute / 10),
       digit (s.readout.minute % 10)] ++
        (if s.pw.clock12 then (if s.readout.hour < 12 then ['A', 'M'] else ['P', 'M']) else [' ', ' '])
    let shown : Prop := s.pw.state = .active ∨ s.pw.state = .crank
    s.compose = { s with readout := { s.readout with
      message := r.message, odoShown := r.odoShown, brightness := r.brightness } } ∧
    (s.pw.state = .load ∨ s.pw.state = .stabilise ∨ s.pw.state = .sleep →
      r.message = List.replicate 10 ' ' ∧ r.odoShown = blank) ∧
    (s.pw.state = .standby → r.odoShown = blank ∧ r.brightness = .dimmed) ∧
    (s.readout.hour < 24 → s.readout.minute < 60 →
      s.pw.state = .standby ∨ (shown ∧ foremost s = none ∧ s.readout.page = .clock) → r.message = clock) ∧
    (∀ n e text, shown → foremost s = some n → s.warn.entry n = some e → textTable[e.cfg.text]? = some text →
      r.message = text ++ List.replicate (10 - text.length) ' ') ∧
    (shown → r.brightness = .full) ∧
    (shown → s.readout.odoSel = .odometer → s.acc.odoUnknown = true →
      r.odoShown = { digits := List.replicate 7 '-', point := false, sign := .none }) ∧
    (shown → ∀ n sign,
      (s.readout.odoSel = .odometer ∧ s.acc.odoUnknown = false ∧ sign = .none ∧
          n = (if s.pw.units = .metric then s.acc.odo else s.acc.odo * 62137 / 100000)) ∨
        (s.readout.odoSel = .tripA ∧ sign = .a ∧
          n = (if s.pw.units = .metric then s.trip.a.dist / 100 else s.trip.a.dist / 100 * 62137 / 100000)) ∨
        (s.readout.odoSel = .tripB ∧ sign = .b ∧
          n = (if s.pw.units = .metric then s.trip.b.dist / 100 else s.trip.b.dist / 100 * 62137 / 100000)) →
      n ≤ 9999999 →
      r.odoShown.point = true ∧ r.odoShown.sign = sign ∧ r.odoShown.digits.length = 7 ∧
        ∀ k, k < 7 → r.odoShown.digits[6 - k]? =
          some (if 2 ≤ k ∧ n < 10 ^ k then ' ' else digit (n / 10 ^ k % 10))) ∧
    (textTable.length = 40 ∧ ∀ text ∈ textTable, text.length ≤ 10) ∧
    (shown → foremost s = none →
      let whole : Nat → List Char := fun n =>
        [if n < 10000 then ' ' else digit (n / 10000), if n < 1000 then ' ' else digit (n / 1000 % 10),
         if n < 100 then ' ' else digit (n / 100 % 10), if n < 10 then ' ' else digit (n / 10 % 10), digit (n % 10)]
      let tenths : Nat → List Char := fun n =>
        if n < 10000 then
          [if n < 1000 then ' ' else digit (n / 1000), if n < 100 then ' ' else digit (n / 100 % 10),
           digit (n / 10 % 10), '.', digit (n % 10)]
        else whole (n / 10)
      let dashed : List Char := [' ', ' ', '-', '-', '-']
      let optional : Option Nat → List Char := fun n => match n with
        | some x => tenths x
        | none => dashed
      let signed : Int → List Char := fun v =>
        if 0 ≤ v then whole v.toNat
        else if -10 < v then [' ', ' ', ' ', '-', digit v.natAbs]
        else if -100 < v then [' ', ' ', '-', digit (v.natAbs / 10), digit (v.natAbs % 10)]
        else if -1000 < v then
          [' ', '-', digit (v.natAbs / 100), digit (v.natAbs / 10 % 10), digit (v.natAbs % 10)]
        else ['-', digit (v.natAbs / 1000), digit (v.natAbs / 100 % 10), digit (v.natAbs / 10 % 10), digit (v.natAbs % 10)]
      let hhmm : Nat → List Char := fun e =>
        [if e < 36000 then ' ' else digit (e / 36000), digit (e / 3600 % 10), ':', digit (e % 3600 / 600),
         digit (e % 3600 / 60 % 10)]
      let u := s.pw.units
      let unit : List Char → List Char → List Char := fun metric other => if u = .metric then metric else other
      let miles : Nat → Nat := fun n => if u = .metric then n else n * 62137 / 100000
      let half : Nat → Nat → Nat := fun n d => (n * 2 + d) / (2 * d)
      let speed : TripRecord → List Char := fun x =>
        if x.elapsed < 60 then dashed else tenths (miles (min 2999 (half (x.dist * 36) x.elapsed)))
      let letter : Char := if s.readout.tripSel = .a then 'A' else 'B'
      let trip := if s.readout.tripSel = .a then s.trip.a else s.trip.b
      let last := if s.readout.tripSel = .a then s.trip.snapA else s.trip.snapB
      (s.readout.page = .range →
        (s.trip.received = false → r.message = ['R', 'N', 'G'] ++ dashed ++ unit ['K', 'M'] ['M', 'I']) ∧
        (s.trip.received = true →
          let ml := tankVolume s.cal.tank (s.trip.f / 256) * 100
          let km := min 1999 (if 8000 ≤ s.trip.winDist ∧ 1 ≤ s.trip.winFuel
            then ml * s.trip.winDist / (s.trip.winFuel * 1000) else ml / s.cal.economy)
          r.message = ['R', 'N', 'G'] ++ (if km < 50 then [' ', ' ', 'L', 'O', 'W'] else whole (miles km)) ++
            unit ['K', 'M'] ['M', 'I'])) ∧
      (s.readout.page = .avgEconomy →
        r.message = [letter, 'E', 'C'] ++ optional (averageEconomy u trip) ++ unit ['L', 'K'] ['M', 'G']) ∧
      (s.readout.page = .currentEconomy →
        let pulses := (s.acc.ring.map Slot.dist).sum * s.cal.kFuel
        let burnt := (s.acc.ring.map Slot.fuel).sum * s.cal.kDist * 1000
        let c := if u = .us then 23521 else 28248
        r.message = ['C', 'U', 'R'] ++
          (if s.acc.speed < 80 then dashed
           else tenths (min 999 (if u = .metric then half burnt pulses
             else if (s.acc.ring.map Slot.fuel).sum = 0 then 999 else half (pulses * c) burnt))) ++
          unit ['L', 'K'] ['M', 'G']) ∧
      (s.readout.page = .avgSpeed → r.message = [letter, 'S', 'P'] ++ speed trip ++ unit ['K', 'H'] ['M', 'H']) ∧
      (s.readout.page = .elapsed → trip.elapsed ≤ 359999 →
        r.message = [letter, 'E', 'T'] ++ hhmm trip.elapsed ++ [' ', ' ']) ∧
      (s.readout.page = .fuelUsed → trip.fuel ≤ 999999 →
        r.message = [letter, 'F', 'U'] ++
          tenths (if u = .metric then trip.fuel / 100
            else if u = .us then trip.fuel * 26417 / 10000000 else trip.fuel * 21997 / 10000000) ++
          unit ['L', 'T'] ['G', 'L']) ∧
      (s.readout.page = .lastTrip →
        (s.readout.rotPos = .distance → last.dist ≤ 9999999 →
          r.message = [letter, 'L', 'D'] ++ tenths (miles (last.dist / 100)) ++ unit ['K', 'M'] ['M', 'I']) ∧
        (s.readout.rotPos = .economy →
          r.message = [letter, 'L', 'E'] ++ optional (averageEconomy u last) ++ unit ['L', 'K'] ['M', 'G']) ∧
        (s.readout.rotPos = .speed →
          r.message = [letter, 'L', 'S'] ++ speed last ++ unit ['K', 'H'] ['M', 'H']) ∧
        (s.readout.rotPos = .time → last.elapsed ≤ 359999 →
          r.message = [letter, 'L', 'T'] ++ hhmm last.elapsed ++ [' ', ' '])) ∧
      (s.readout.page = .service →
        ((∀ x ∈ s.service.items, x.state = .ok) → r.message = "SERVICE OK".toList) ∧
        (∀ n x, n < 6 → s.service.items[n]? = some x → x.state ≠ .ok →
          (∀ y ∈ s.service.items, y.state.rank ≤ x.state.rank) →
          (∀ m y, m < n → s.service.items[m]? = some y → y.state ≠ x.state) →
          let used : List (Nat × Nat × Nat) :=
            [(x.cfg.kmInterval, x.cfg.kmMargin, s.acc.odo / 10 - x.odoBase / 10),
             (x.cfg.daysInterval, x.cfg.daysMargin, s.readout.day - x.dayBase),
             (x.cfg.hoursInterval, x.cfg.hoursMargin, s.service.hours / 10 - x.hoursBase)]
          let gives : Nat → Prop := fun k => ∃ m ∈ used[k]?, m.1 ≠ 0 ∧ measureState m.1 m.2.1 m.2.2 = x.state
          let left : Nat → Int := fun k =>
            max (-9999) (min 99999 ((((used[k]?).getD (0, 0, 0)).1 : Int) - ((used[k]?).getD (0, 0, 0)).2.2))
          let label : List Char := ['S', 'V', digit n]
          (gives 0 → r.message = label ++ signed (if u = .metric then left 0 else left 0 * 62137 / 100000) ++
            unit ['K', 'M'] ['M', 'I']) ∧
          (¬ gives 0 → gives 1 → r.message = label ++ signed (left 1) ++ ['D', 'Y']) ∧
          (¬ gives 0 → ¬ gives 1 → gives 2 → r.message = label ++ signed (left 2) ++ ['H', 'R']))) ∧
      (s.readout.page = .outsideTemp →
        let held := s.sig.bodyHdr.fresh = .fresh ∨ s.sig.bodyHdr.fresh = .stale
        (¬ held → r.message = ['O', 'U', 'T'] ++ dashed ++ unit ['C', ' '] ['F', ' ']) ∧
        (held → -40 ≤ s.sig.body.outside → s.sig.body.outside ≤ 60 →
          r.message = ['O', 'U', 'T'] ++
            signed (if u = .metric then s.sig.body.outside else (s.sig.body.outside * 18 + 5) / 10 + 32) ++
            unit ['C', ' '] ['F', ' '])))

/-- R120: the state a service measure gives, and an item's state as the worst of its enabled measures; R35: an addition that
would pass a maximum restarts the trip record; R84: the three latches, each with its set, clear and unavailable cases. -/
def Obligations.ItemsRecordsLatches : Prop :=
  (∀ i m u : Nat, 0 < i →
    (measureState i m u = .overdue ↔ i + i / 10 ≤ u) ∧
    (measureState i m u = .due ↔ i ≤ u ∧ u < i + i / 10) ∧
    (measureState i m u = .soon ↔ u < i ∧ i ≤ u + m) ∧
    (measureState i m u = .ok ↔ u < i ∧ u + m < i)) ∧
  (∀ m u : Nat, measureState 0 m u = .ok) ∧
  (∀ (x : ServiceItem) (odo day hours : Nat),
    let km := measureState x.cfg.kmInterval x.cfg.kmMargin (odo / 10 - x.odoBase / 10)
    let days := measureState x.cfg.daysInterval x.cfg.daysMargin (day - x.dayBase)
    let hrs := measureState x.cfg.hoursInterval x.cfg.hoursMargin (hours / 10 - x.hoursBase)
    let worst := itemState x odo day hours
    (worst = .overdue ↔ km = .overdue ∨ days = .overdue ∨ hrs = .overdue) ∧
    (worst = .ok ↔ km = .ok ∧ days = .ok ∧ hrs = .ok) ∧
    (worst = .due ↔ (km = .due ∨ days = .due ∨ hrs = .due) ∧ km ≠ .overdue ∧ days ≠ .overdue ∧ hrs ≠ .overdue)) ∧
  (∀ (r snap : TripRecord) (d f e : Nat),
    (r.dist + d ≤ 9999999 → r.fuel + f ≤ 999999 → r.elapsed + e ≤ 359999 →
      recordAdd r snap d f e = ({ dist := r.dist + d, fuel := r.fuel + f, elapsed := r.elapsed + e }, snap)) ∧
    (9999999 < r.dist + d ∨ 999999 < r.fuel + f ∨ 359999 < r.elapsed + e →
      recordAdd r snap d f e = ({ dist := d, fuel := f, elapsed := e }, r))) ∧
  (∀ (c : Cal) (t : Trip) (latch : Bool),
    (t.received = false → fuelLowNext c t latch = false) ∧
    (t.received = true →
      let ml := tankVolume c.tank (t.f / 256) * 100
      (latch = false → (fuelLowNext c t latch = true ↔ ml < c.lowLevel * 100)) ∧
      (latch = true → (fuelLowNext c t latch = false ↔ c.lowLevel * 100 + 2000 ≤ ml)))) ∧
  (∀ (c : Cal) (t : Signals) (latch : Bool),
    let held := t.engineHdr.fresh = .fresh ∨ t.engineHdr.fresh = .stale
    (¬ held → coolantHotNext c t latch = false) ∧
    (held → latch = false → (coolantHotNext c t latch = true ↔ (c.hot : Int) ≤ t.engine.coolant)) ∧
    (held → latch = true → (coolantHotNext c t latch = false ↔ t.engine.coolant ≤ (c.hot : Int) - 3))) ∧
  (∀ (limit speed : Nat) (t : Signals) (latch : Bool),
    let held := t.chassisHdr.fresh = .fresh ∨ t.chassisHdr.fresh = .stale
    (¬ held ∨ limit = 0 → overspeedNext limit speed t latch = false) ∧
    (held → limit ≠ 0 → latch = false → (overspeedNext limit speed t latch = true ↔ limit * 10 ≤ speed)) ∧
    (held → limit ≠ 0 → latch = true → (overspeedNext limit speed t latch = false ↔ speed + 20 ≤ limit * 10)))

/-! ## Laws that every step keeps -/

/-- The serial memory keeps its canonical form. -/
def Obligations.MemoryKept : Prop :=
  ∀ s t : State, s.memoryLaw → step s = .next t → t.memoryLaw

/-- The laws of R153 and R155: at most 8 transmit entries, one for each key, in order of priority; at most 16 frames. -/
def Obligations.LineQueuesKept : Prop :=
  (∀ s t : State, s.transmitLaw → step s = .next t → t.transmitLaw) ∧
    (∀ s t : State, s.inboundLaw → step s = .next t → t.inboundLaw)

/-- The write queue keeps one entry for each key, at most four calibration entries and eight in all (R179); every write stays
within the 512 words of the memory (R177), and then no command faults and none is refused. -/
def Obligations.WritesKept : Prop :=
  (∀ s t : State, s.writeLaw → step s = .next t → t.writeLaw) ∧
  (∀ s : State, s.writingLaw → ∃ t, step s = .next t ∧ t.writingLaw)

/-- The law of R103: the chime queue holds at most 8 entries, one for each warning, in order of class, and only for warnings in
ACTIVE whose audience includes the role. -/
def Obligations.ChimeQueueKept : Prop :=
  ∀ s t : State, s.chimeLaw → s.foremostLaw → step s = .next t → t.chimeLaw ∧ t.foremostLaw

/-- The law of R109: the tone is silent outside STANDBY and ACTIVE, and there the pattern that plays is that of the head. With the
order of the queue (R103) it follows that no B or C pattern plays while a class A entry waits. -/
def Obligations.ToneKept : Prop :=
  (∀ s t : State, s.toneLaw → step s = .next t → t.toneLaw) ∧
  (∀ s t : State, s.toneLaw → s.chimeLaw → s.foremostLaw → step s = .next t → t.chime.mode = .pattern →
    (∃ e ∈ t.chime.queue, e.cls = .a) → t.chime.playingClass = some .a)

/-- The law of R144 and R165: the tallies stop at their maxima and never wrap. The law of R164: no signal entry is FRESH or STALE
while its station is ABSENT; and the records keep their ranges (R158). -/
def Obligations.RecordsKept : Prop :=
  (∀ s t : State, s.tallyLaw → step s = .next t → t.tallyLaw) ∧
  ((∀ s t : State, s.bindingLaw → step s = .next t → t.bindingLaw) ∧
      (∀ s t : State, s.stationLaw → step s = .next t → t.stationLaw))

/-- The law of R67: every pointer stays within 0 and its full scale, every tick count below its divider (R60), and a channel is OFF
exactly when its source is (R74). The law of R50: every trip field stays within its maximum; and the filter, the clock and the counters keep their ranges. -/
def Obligations.RangesKept : Prop :=
  (∀ s t : State, s.gaugeLaw → step s = .next t → t.gaugeLaw) ∧
  ((∀ s t : State, s.tripLaw → step s = .next t → t.tripLaw) ∧
      (∀ s t : State, s.filterLaw → step s = .next t → t.filterLaw) ∧
      (∀ s t : State, s.clockLaw → step s = .next t → t.clockLaw))

/-- The odometer stays within its range, and falls only at a reset or at the end of LOAD (R27). The law of R120: no service item's
odometer baseline exceeds the odometer, and every item's state is the one its measures give at that moment. -/
def Obligations.OdometerKept : Prop :=
  (∀ s t : State, s.odometerLaw → step s = .next t →
      t.odometerLaw ∧
        (t.acc.odo < s.acc.odo → ∃ c rest, s.pending = c :: rest ∧
          (c = .restartReset ∨ (∃ n l, c = .loadEnd n l) ∨ (∃ p r n, c = .powerOnReset p r n) ∨
            ∃ p r n, c = .resetPin p r n))) ∧
  (∀ s t : State, s.odometerLaw → s.serviceLaw → step s = .next t → t.serviceLaw)

/-- The keep-alive timer and the return stage follow the reasons of R172 and R173. What SLEEP leaves stays as long as SLEEP lasts: no
frame, no pause, no 20, 100 and 200 ms tick, every configured channel PARKED, every warning QUIET, no chime, blank readouts (R72,
R87, R102, R130, R155, R173, R174). The lamp states are those their entries and the lamp test call for (R98, R100). -/
def Obligations.KeepAliveKept : Prop :=
  (∀ s t : State, s.keepAliveLaw → step s = .next t → t.keepAliveLaw) ∧
    (∀ s t : State, s.sleepLaw → step s = .next t → t.sleepLaw) ∧
    ∀ s t : State, s.lampLaw → step s = .next t → t.lampLaw
end

