-- ==== Sys2Proof/Laws/State.lean ====
section
/-! SUPPORT. One lemma for each field under each update of the state, true by unfolding alone: no later proof unfolds a record
update. -/

namespace Sys2Proof.Machine

@[simp] theorem State.setPins_pins (s : State) (x : Pins) : (s.setPins x).pins = x := rfl
@[simp] theorem State.setPins_mem (s : State) (x : Pins) : (s.setPins x).mem = s.mem := rfl
@[simp] theorem State.setPins_cal (s : State) (x : Pins) : (s.setPins x).cal = s.cal := rfl
@[simp] theorem State.setPins_pw (s : State) (x : Pins) : (s.setPins x).pw = s.pw := rfl
@[simp] theorem State.setPins_line (s : State) (x : Pins) : (s.setPins x).line = s.line := rfl
@[simp] theorem State.setPins_sig (s : State) (x : Pins) : (s.setPins x).sig = s.sig := rfl
@[simp] theorem State.setPins_peer (s : State) (x : Pins) : (s.setPins x).peer = s.peer := rfl
@[simp] theorem State.setPins_acc (s : State) (x : Pins) : (s.setPins x).acc = s.acc := rfl
@[simp] theorem State.setPins_trip (s : State) (x : Pins) : (s.setPins x).trip = s.trip := rfl
@[simp] theorem State.setPins_gauges (s : State) (x : Pins) : (s.setPins x).gauges = s.gauges := rfl
@[simp] theorem State.setPins_warn (s : State) (x : Pins) : (s.setPins x).warn = s.warn := rfl
@[simp] theorem State.setPins_chime (s : State) (x : Pins) : (s.setPins x).chime = s.chime := rfl
@[simp] theorem State.setPins_service (s : State) (x : Pins) : (s.setPins x).service = s.service := rfl
@[simp] theorem State.setPins_readout (s : State) (x : Pins) : (s.setPins x).readout = s.readout := rfl
@[simp] theorem State.setPins_tally (s : State) (x : Pins) : (s.setPins x).tally = s.tally := rfl
@[simp] theorem State.setPins_pending (s : State) (x : Pins) : (s.setPins x).pending = s.pending := rfl
@[simp] theorem State.setPins_idled (s : State) (x : Pins) : (s.setPins x).idled = s.idled := rfl

@[simp] theorem State.setMem_pins (s : State) (x : Memory) : (s.setMem x).pins = s.pins := rfl
@[simp] theorem State.setMem_mem (s : State) (x : Memory) : (s.setMem x).mem = x := rfl
@[simp] theorem State.setMem_cal (s : State) (x : Memory) : (s.setMem x).cal = s.cal := rfl
@[simp] theorem State.setMem_pw (s : State) (x : Memory) : (s.setMem x).pw = s.pw := rfl
@[simp] theorem State.setMem_line (s : State) (x : Memory) : (s.setMem x).line = s.line := rfl
@[simp] theorem State.setMem_sig (s : State) (x : Memory) : (s.setMem x).sig = s.sig := rfl
@[simp] theorem State.setMem_peer (s : State) (x : Memory) : (s.setMem x).peer = s.peer := rfl
@[simp] theorem State.setMem_acc (s : State) (x : Memory) : (s.setMem x).acc = s.acc := rfl
@[simp] theorem State.setMem_trip (s : State) (x : Memory) : (s.setMem x).trip = s.trip := rfl
@[simp] theorem State.setMem_gauges (s : State) (x : Memory) : (s.setMem x).gauges = s.gauges := rfl
@[simp] theorem State.setMem_warn (s : State) (x : Memory) : (s.setMem x).warn = s.warn := rfl
@[simp] theorem State.setMem_chime (s : State) (x : Memory) : (s.setMem x).chime = s.chime := rfl
@[simp] theorem State.setMem_service (s : State) (x : Memory) : (s.setMem x).service = s.service := rfl
@[simp] theorem State.setMem_readout (s : State) (x : Memory) : (s.setMem x).readout = s.readout := rfl
@[simp] theorem State.setMem_tally (s : State) (x : Memory) : (s.setMem x).tally = s.tally := rfl
@[simp] theorem State.setMem_pending (s : State) (x : Memory) : (s.setMem x).pending = s.pending := rfl
@[simp] theorem State.setMem_idled (s : State) (x : Memory) : (s.setMem x).idled = s.idled := rfl

@[simp] theorem State.setCal_pins (s : State) (x : Cal) : (s.setCal x).pins = s.pins := rfl
@[simp] theorem State.setCal_mem (s : State) (x : Cal) : (s.setCal x).mem = s.mem := rfl
@[simp] theorem State.setCal_cal (s : State) (x : Cal) : (s.setCal x).cal = x := rfl
@[simp] theorem State.setCal_pw (s : State) (x : Cal) : (s.setCal x).pw = s.pw := rfl
@[simp] theorem State.setCal_line (s : State) (x : Cal) : (s.setCal x).line = s.line := rfl
@[simp] theorem State.setCal_sig (s : State) (x : Cal) : (s.setCal x).sig = s.sig := rfl
@[simp] theorem State.setCal_peer (s : State) (x : Cal) : (s.setCal x).peer = s.peer := rfl
@[simp] theorem State.setCal_acc (s : State) (x : Cal) : (s.setCal x).acc = s.acc := rfl
@[simp] theorem State.setCal_trip (s : State) (x : Cal) : (s.setCal x).trip = s.trip := rfl
@[simp] theorem State.setCal_gauges (s : State) (x : Cal) : (s.setCal x).gauges = s.gauges := rfl
@[simp] theorem State.setCal_warn (s : State) (x : Cal) : (s.setCal x).warn = s.warn := rfl
@[simp] theorem State.setCal_chime (s : State) (x : Cal) : (s.setCal x).chime = s.chime := rfl
@[simp] theorem State.setCal_service (s : State) (x : Cal) : (s.setCal x).service = s.service := rfl
@[simp] theorem State.setCal_readout (s : State) (x : Cal) : (s.setCal x).readout = s.readout := rfl
@[simp] theorem State.setCal_tally (s : State) (x : Cal) : (s.setCal x).tally = s.tally := rfl
@[simp] theorem State.setCal_pending (s : State) (x : Cal) : (s.setCal x).pending = s.pending := rfl
@[simp] theorem State.setCal_idled (s : State) (x : Cal) : (s.setCal x).idled = s.idled := rfl

@[simp] theorem State.setPw_pins (s : State) (x : PowerUnit) : (s.setPw x).pins = s.pins := rfl
@[simp] theorem State.setPw_mem (s : State) (x : PowerUnit) : (s.setPw x).mem = s.mem := rfl
@[simp] theorem State.setPw_cal (s : State) (x : PowerUnit) : (s.setPw x).cal = s.cal := rfl
@[simp] theorem State.setPw_pw (s : State) (x : PowerUnit) : (s.setPw x).pw = x := rfl
@[simp] theorem State.setPw_line (s : State) (x : PowerUnit) : (s.setPw x).line = s.line := rfl
@[simp] theorem State.setPw_sig (s : State) (x : PowerUnit) : (s.setPw x).sig = s.sig := rfl
@[simp] theorem State.setPw_peer (s : State) (x : PowerUnit) : (s.setPw x).peer = s.peer := rfl
@[simp] theorem State.setPw_acc (s : State) (x : PowerUnit) : (s.setPw x).acc = s.acc := rfl
@[simp] theorem State.setPw_trip (s : State) (x : PowerUnit) : (s.setPw x).trip = s.trip := rfl
@[simp] theorem State.setPw_gauges (s : State) (x : PowerUnit) : (s.setPw x).gauges = s.gauges := rfl
@[simp] theorem State.setPw_warn (s : State) (x : PowerUnit) : (s.setPw x).warn = s.warn := rfl
@[simp] theorem State.setPw_chime (s : State) (x : PowerUnit) : (s.setPw x).chime = s.chime := rfl
@[simp] theorem State.setPw_service (s : State) (x : PowerUnit) : (s.setPw x).service = s.service := rfl
@[simp] theorem State.setPw_readout (s : State) (x : PowerUnit) : (s.setPw x).readout = s.readout := rfl
@[simp] theorem State.setPw_tally (s : State) (x : PowerUnit) : (s.setPw x).tally = s.tally := rfl
@[simp] theorem State.setPw_pending (s : State) (x : PowerUnit) : (s.setPw x).pending = s.pending := rfl
@[simp] theorem State.setPw_idled (s : State) (x : PowerUnit) : (s.setPw x).idled = s.idled := rfl

@[simp] theorem State.setLine_pins (s : State) (x : Line) : (s.setLine x).pins = s.pins := rfl
@[simp] theorem State.setLine_mem (s : State) (x : Line) : (s.setLine x).mem = s.mem := rfl
@[simp] theorem State.setLine_cal (s : State) (x : Line) : (s.setLine x).cal = s.cal := rfl
@[simp] theorem State.setLine_pw (s : State) (x : Line) : (s.setLine x).pw = s.pw := rfl
@[simp] theorem State.setLine_line (s : State) (x : Line) : (s.setLine x).line = x := rfl
@[simp] theorem State.setLine_sig (s : State) (x : Line) : (s.setLine x).sig = s.sig := rfl
@[simp] theorem State.setLine_peer (s : State) (x : Line) : (s.setLine x).peer = s.peer := rfl
@[simp] theorem State.setLine_acc (s : State) (x : Line) : (s.setLine x).acc = s.acc := rfl
@[simp] theorem State.setLine_trip (s : State) (x : Line) : (s.setLine x).trip = s.trip := rfl
@[simp] theorem State.setLine_gauges (s : State) (x : Line) : (s.setLine x).gauges = s.gauges := rfl
@[simp] theorem State.setLine_warn (s : State) (x : Line) : (s.setLine x).warn = s.warn := rfl
@[simp] theorem State.setLine_chime (s : State) (x : Line) : (s.setLine x).chime = s.chime := rfl
@[simp] theorem State.setLine_service (s : State) (x : Line) : (s.setLine x).service = s.service := rfl
@[simp] theorem State.setLine_readout (s : State) (x : Line) : (s.setLine x).readout = s.readout := rfl
@[simp] theorem State.setLine_tally (s : State) (x : Line) : (s.setLine x).tally = s.tally := rfl
@[simp] theorem State.setLine_pending (s : State) (x : Line) : (s.setLine x).pending = s.pending := rfl
@[simp] theorem State.setLine_idled (s : State) (x : Line) : (s.setLine x).idled = s.idled := rfl

@[simp] theorem State.setSig_pins (s : State) (x : Signals) : (s.setSig x).pins = s.pins := rfl
@[simp] theorem State.setSig_mem (s : State) (x : Signals) : (s.setSig x).mem = s.mem := rfl
@[simp] theorem State.setSig_cal (s : State) (x : Signals) : (s.setSig x).cal = s.cal := rfl
@[simp] theorem State.setSig_pw (s : State) (x : Signals) : (s.setSig x).pw = s.pw := rfl
@[simp] theorem State.setSig_line (s : State) (x : Signals) : (s.setSig x).line = s.line := rfl
@[simp] theorem State.setSig_sig (s : State) (x : Signals) : (s.setSig x).sig = x := rfl
@[simp] theorem State.setSig_peer (s : State) (x : Signals) : (s.setSig x).peer = s.peer := rfl
@[simp] theorem State.setSig_acc (s : State) (x : Signals) : (s.setSig x).acc = s.acc := rfl
@[simp] theorem State.setSig_trip (s : State) (x : Signals) : (s.setSig x).trip = s.trip := rfl
@[simp] theorem State.setSig_gauges (s : State) (x : Signals) : (s.setSig x).gauges = s.gauges := rfl
@[simp] theorem State.setSig_warn (s : State) (x : Signals) : (s.setSig x).warn = s.warn := rfl
@[simp] theorem State.setSig_chime (s : State) (x : Signals) : (s.setSig x).chime = s.chime := rfl
@[simp] theorem State.setSig_service (s : State) (x : Signals) : (s.setSig x).service = s.service := rfl
@[simp] theorem State.setSig_readout (s : State) (x : Signals) : (s.setSig x).readout = s.readout := rfl
@[simp] theorem State.setSig_tally (s : State) (x : Signals) : (s.setSig x).tally = s.tally := rfl
@[simp] theorem State.setSig_pending (s : State) (x : Signals) : (s.setSig x).pending = s.pending := rfl
@[simp] theorem State.setSig_idled (s : State) (x : Signals) : (s.setSig x).idled = s.idled := rfl

@[simp] theorem State.setPeer_pins (s : State) (x : Peer) : (s.setPeer x).pins = s.pins := rfl
@[simp] theorem State.setPeer_mem (s : State) (x : Peer) : (s.setPeer x).mem = s.mem := rfl
@[simp] theorem State.setPeer_cal (s : State) (x : Peer) : (s.setPeer x).cal = s.cal := rfl
@[simp] theorem State.setPeer_pw (s : State) (x : Peer) : (s.setPeer x).pw = s.pw := rfl
@[simp] theorem State.setPeer_line (s : State) (x : Peer) : (s.setPeer x).line = s.line := rfl
@[simp] theorem State.setPeer_sig (s : State) (x : Peer) : (s.setPeer x).sig = s.sig := rfl
@[simp] theorem State.setPeer_peer (s : State) (x : Peer) : (s.setPeer x).peer = x := rfl
@[simp] theorem State.setPeer_acc (s : State) (x : Peer) : (s.setPeer x).acc = s.acc := rfl
@[simp] theorem State.setPeer_trip (s : State) (x : Peer) : (s.setPeer x).trip = s.trip := rfl
@[simp] theorem State.setPeer_gauges (s : State) (x : Peer) : (s.setPeer x).gauges = s.gauges := rfl
@[simp] theorem State.setPeer_warn (s : State) (x : Peer) : (s.setPeer x).warn = s.warn := rfl
@[simp] theorem State.setPeer_chime (s : State) (x : Peer) : (s.setPeer x).chime = s.chime := rfl
@[simp] theorem State.setPeer_service (s : State) (x : Peer) : (s.setPeer x).service = s.service := rfl
@[simp] theorem State.setPeer_readout (s : State) (x : Peer) : (s.setPeer x).readout = s.readout := rfl
@[simp] theorem State.setPeer_tally (s : State) (x : Peer) : (s.setPeer x).tally = s.tally := rfl
@[simp] theorem State.setPeer_pending (s : State) (x : Peer) : (s.setPeer x).pending = s.pending := rfl
@[simp] theorem State.setPeer_idled (s : State) (x : Peer) : (s.setPeer x).idled = s.idled := rfl

@[simp] theorem State.setAcc_pins (s : State) (x : Accum) : (s.setAcc x).pins = s.pins := rfl
@[simp] theorem State.setAcc_mem (s : State) (x : Accum) : (s.setAcc x).mem = s.mem := rfl
@[simp] theorem State.setAcc_cal (s : State) (x : Accum) : (s.setAcc x).cal = s.cal := rfl
@[simp] theorem State.setAcc_pw (s : State) (x : Accum) : (s.setAcc x).pw = s.pw := rfl
@[simp] theorem State.setAcc_line (s : State) (x : Accum) : (s.setAcc x).line = s.line := rfl
@[simp] theorem State.setAcc_sig (s : State) (x : Accum) : (s.setAcc x).sig = s.sig := rfl
@[simp] theorem State.setAcc_peer (s : State) (x : Accum) : (s.setAcc x).peer = s.peer := rfl
@[simp] theorem State.setAcc_acc (s : State) (x : Accum) : (s.setAcc x).acc = x := rfl
@[simp] theorem State.setAcc_trip (s : State) (x : Accum) : (s.setAcc x).trip = s.trip := rfl
@[simp] theorem State.setAcc_gauges (s : State) (x : Accum) : (s.setAcc x).gauges = s.gauges := rfl
@[simp] theorem State.setAcc_warn (s : State) (x : Accum) : (s.setAcc x).warn = s.warn := rfl
@[simp] theorem State.setAcc_chime (s : State) (x : Accum) : (s.setAcc x).chime = s.chime := rfl
@[simp] theorem State.setAcc_service (s : State) (x : Accum) : (s.setAcc x).service = s.service := rfl
@[simp] theorem State.setAcc_readout (s : State) (x : Accum) : (s.setAcc x).readout = s.readout := rfl
@[simp] theorem State.setAcc_tally (s : State) (x : Accum) : (s.setAcc x).tally = s.tally := rfl
@[simp] theorem State.setAcc_pending (s : State) (x : Accum) : (s.setAcc x).pending = s.pending := rfl
@[simp] theorem State.setAcc_idled (s : State) (x : Accum) : (s.setAcc x).idled = s.idled := rfl

@[simp] theorem State.setTrip_pins (s : State) (x : Trip) : (s.setTrip x).pins = s.pins := rfl
@[simp] theorem State.setTrip_mem (s : State) (x : Trip) : (s.setTrip x).mem = s.mem := rfl
@[simp] theorem State.setTrip_cal (s : State) (x : Trip) : (s.setTrip x).cal = s.cal := rfl
@[simp] theorem State.setTrip_pw (s : State) (x : Trip) : (s.setTrip x).pw = s.pw := rfl
@[simp] theorem State.setTrip_line (s : State) (x : Trip) : (s.setTrip x).line = s.line := rfl
@[simp] theorem State.setTrip_sig (s : State) (x : Trip) : (s.setTrip x).sig = s.sig := rfl
@[simp] theorem State.setTrip_peer (s : State) (x : Trip) : (s.setTrip x).peer = s.peer := rfl
@[simp] theorem State.setTrip_acc (s : State) (x : Trip) : (s.setTrip x).acc = s.acc := rfl
@[simp] theorem State.setTrip_trip (s : State) (x : Trip) : (s.setTrip x).trip = x := rfl
@[simp] theorem State.setTrip_gauges (s : State) (x : Trip) : (s.setTrip x).gauges = s.gauges := rfl
@[simp] theorem State.setTrip_warn (s : State) (x : Trip) : (s.setTrip x).warn = s.warn := rfl
@[simp] theorem State.setTrip_chime (s : State) (x : Trip) : (s.setTrip x).chime = s.chime := rfl
@[simp] theorem State.setTrip_service (s : State) (x : Trip) : (s.setTrip x).service = s.service := rfl
@[simp] theorem State.setTrip_readout (s : State) (x : Trip) : (s.setTrip x).readout = s.readout := rfl
@[simp] theorem State.setTrip_tally (s : State) (x : Trip) : (s.setTrip x).tally = s.tally := rfl
@[simp] theorem State.setTrip_pending (s : State) (x : Trip) : (s.setTrip x).pending = s.pending := rfl
@[simp] theorem State.setTrip_idled (s : State) (x : Trip) : (s.setTrip x).idled = s.idled := rfl

@[simp] theorem State.setGauges_pins (s : State) (x : List Channel) : (s.setGauges x).pins = s.pins := rfl
@[simp] theorem State.setGauges_mem (s : State) (x : List Channel) : (s.setGauges x).mem = s.mem := rfl
@[simp] theorem State.setGauges_cal (s : State) (x : List Channel) : (s.setGauges x).cal = s.cal := rfl
@[simp] theorem State.setGauges_pw (s : State) (x : List Channel) : (s.setGauges x).pw = s.pw := rfl
@[simp] theorem State.setGauges_line (s : State) (x : List Channel) : (s.setGauges x).line = s.line := rfl
@[simp] theorem State.setGauges_sig (s : State) (x : List Channel) : (s.setGauges x).sig = s.sig := rfl
@[simp] theorem State.setGauges_peer (s : State) (x : List Channel) : (s.setGauges x).peer = s.peer := rfl
@[simp] theorem State.setGauges_acc (s : State) (x : List Channel) : (s.setGauges x).acc = s.acc := rfl
@[simp] theorem State.setGauges_trip (s : State) (x : List Channel) : (s.setGauges x).trip = s.trip := rfl
@[simp] theorem State.setGauges_gauges (s : State) (x : List Channel) : (s.setGauges x).gauges = x := rfl
@[simp] theorem State.setGauges_warn (s : State) (x : List Channel) : (s.setGauges x).warn = s.warn := rfl
@[simp] theorem State.setGauges_chime (s : State) (x : List Channel) : (s.setGauges x).chime = s.chime := rfl
@[simp] theorem State.setGauges_service (s : State) (x : List Channel) : (s.setGauges x).service = s.service := rfl
@[simp] theorem State.setGauges_readout (s : State) (x : List Channel) : (s.setGauges x).readout = s.readout := rfl
@[simp] theorem State.setGauges_tally (s : State) (x : List Channel) : (s.setGauges x).tally = s.tally := rfl
@[simp] theorem State.setGauges_pending (s : State) (x : List Channel) : (s.setGauges x).pending = s.pending := rfl
@[simp] theorem State.setGauges_idled (s : State) (x : List Channel) : (s.setGauges x).idled = s.idled := rfl

@[simp] theorem State.setWarn_pins (s : State) (x : WarnUnit) : (s.setWarn x).pins = s.pins := rfl
@[simp] theorem State.setWarn_mem (s : State) (x : WarnUnit) : (s.setWarn x).mem = s.mem := rfl
@[simp] theorem State.setWarn_cal (s : State) (x : WarnUnit) : (s.setWarn x).cal = s.cal := rfl
@[simp] theorem State.setWarn_pw (s : State) (x : WarnUnit) : (s.setWarn x).pw = s.pw := rfl
@[simp] theorem State.setWarn_line (s : State) (x : WarnUnit) : (s.setWarn x).line = s.line := rfl
@[simp] theorem State.setWarn_sig (s : State) (x : WarnUnit) : (s.setWarn x).sig = s.sig := rfl
@[simp] theorem State.setWarn_peer (s : State) (x : WarnUnit) : (s.setWarn x).peer = s.peer := rfl
@[simp] theorem State.setWarn_acc (s : State) (x : WarnUnit) : (s.setWarn x).acc = s.acc := rfl
@[simp] theorem State.setWarn_trip (s : State) (x : WarnUnit) : (s.setWarn x).trip = s.trip := rfl
@[simp] theorem State.setWarn_gauges (s : State) (x : WarnUnit) : (s.setWarn x).gauges = s.gauges := rfl
@[simp] theorem State.setWarn_warn (s : State) (x : WarnUnit) : (s.setWarn x).warn = x := rfl
@[simp] theorem State.setWarn_chime (s : State) (x : WarnUnit) : (s.setWarn x).chime = s.chime := rfl
@[simp] theorem State.setWarn_service (s : State) (x : WarnUnit) : (s.setWarn x).service = s.service := rfl
@[simp] theorem State.setWarn_readout (s : State) (x : WarnUnit) : (s.setWarn x).readout = s.readout := rfl
@[simp] theorem State.setWarn_tally (s : State) (x : WarnUnit) : (s.setWarn x).tally = s.tally := rfl
@[simp] theorem State.setWarn_pending (s : State) (x : WarnUnit) : (s.setWarn x).pending = s.pending := rfl
@[simp] theorem State.setWarn_idled (s : State) (x : WarnUnit) : (s.setWarn x).idled = s.idled := rfl

@[simp] theorem State.setChime_pins (s : State) (x : Chimes) : (s.setChime x).pins = s.pins := rfl
@[simp] theorem State.setChime_mem (s : State) (x : Chimes) : (s.setChime x).mem = s.mem := rfl
@[simp] theorem State.setChime_cal (s : State) (x : Chimes) : (s.setChime x).cal = s.cal := rfl
@[simp] theorem State.setChime_pw (s : State) (x : Chimes) : (s.setChime x).pw = s.pw := rfl
@[simp] theorem State.setChime_line (s : State) (x : Chimes) : (s.setChime x).line = s.line := rfl
@[simp] theorem State.setChime_sig (s : State) (x : Chimes) : (s.setChime x).sig = s.sig := rfl
@[simp] theorem State.setChime_peer (s : State) (x : Chimes) : (s.setChime x).peer = s.peer := rfl
@[simp] theorem State.setChime_acc (s : State) (x : Chimes) : (s.setChime x).acc = s.acc := rfl
@[simp] theorem State.setChime_trip (s : State) (x : Chimes) : (s.setChime x).trip = s.trip := rfl
@[simp] theorem State.setChime_gauges (s : State) (x : Chimes) : (s.setChime x).gauges = s.gauges := rfl
@[simp] theorem State.setChime_warn (s : State) (x : Chimes) : (s.setChime x).warn = s.warn := rfl
@[simp] theorem State.setChime_chime (s : State) (x : Chimes) : (s.setChime x).chime = x := rfl
@[simp] theorem State.setChime_service (s : State) (x : Chimes) : (s.setChime x).service = s.service := rfl
@[simp] theorem State.setChime_readout (s : State) (x : Chimes) : (s.setChime x).readout = s.readout := rfl
@[simp] theorem State.setChime_tally (s : State) (x : Chimes) : (s.setChime x).tally = s.tally := rfl
@[simp] theorem State.setChime_pending (s : State) (x : Chimes) : (s.setChime x).pending = s.pending := rfl
@[simp] theorem State.setChime_idled (s : State) (x : Chimes) : (s.setChime x).idled = s.idled := rfl

@[simp] theorem State.setService_pins (s : State) (x : Service) : (s.setService x).pins = s.pins := rfl
@[simp] theorem State.setService_mem (s : State) (x : Service) : (s.setService x).mem = s.mem := rfl
@[simp] theorem State.setService_cal (s : State) (x : Service) : (s.setService x).cal = s.cal := rfl
@[simp] theorem State.setService_pw (s : State) (x : Service) : (s.setService x).pw = s.pw := rfl
@[simp] theorem State.setService_line (s : State) (x : Service) : (s.setService x).line = s.line := rfl
@[simp] theorem State.setService_sig (s : State) (x : Service) : (s.setService x).sig = s.sig := rfl
@[simp] theorem State.setService_peer (s : State) (x : Service) : (s.setService x).peer = s.peer := rfl
@[simp] theorem State.setService_acc (s : State) (x : Service) : (s.setService x).acc = s.acc := rfl
@[simp] theorem State.setService_trip (s : State) (x : Service) : (s.setService x).trip = s.trip := rfl
@[simp] theorem State.setService_gauges (s : State) (x : Service) : (s.setService x).gauges = s.gauges := rfl
@[simp] theorem State.setService_warn (s : State) (x : Service) : (s.setService x).warn = s.warn := rfl
@[simp] theorem State.setService_chime (s : State) (x : Service) : (s.setService x).chime = s.chime := rfl
@[simp] theorem State.setService_service (s : State) (x : Service) : (s.setService x).service = x := rfl
@[simp] theorem State.setService_readout (s : State) (x : Service) : (s.setService x).readout = s.readout := rfl
@[simp] theorem State.setService_tally (s : State) (x : Service) : (s.setService x).tally = s.tally := rfl
@[simp] theorem State.setService_pending (s : State) (x : Service) : (s.setService x).pending = s.pending := rfl
@[simp] theorem State.setService_idled (s : State) (x : Service) : (s.setService x).idled = s.idled := rfl

@[simp] theorem State.setReadout_pins (s : State) (x : Readout) : (s.setReadout x).pins = s.pins := rfl
@[simp] theorem State.setReadout_mem (s : State) (x : Readout) : (s.setReadout x).mem = s.mem := rfl
@[simp] theorem State.setReadout_cal (s : State) (x : Readout) : (s.setReadout x).cal = s.cal := rfl
@[simp] theorem State.setReadout_pw (s : State) (x : Readout) : (s.setReadout x).pw = s.pw := rfl
@[simp] theorem State.setReadout_line (s : State) (x : Readout) : (s.setReadout x).line = s.line := rfl
@[simp] theorem State.setReadout_sig (s : State) (x : Readout) : (s.setReadout x).sig = s.sig := rfl
@[simp] theorem State.setReadout_peer (s : State) (x : Readout) : (s.setReadout x).peer = s.peer := rfl
@[simp] theorem State.setReadout_acc (s : State) (x : Readout) : (s.setReadout x).acc = s.acc := rfl
@[simp] theorem State.setReadout_trip (s : State) (x : Readout) : (s.setReadout x).trip = s.trip := rfl
@[simp] theorem State.setReadout_gauges (s : State) (x : Readout) : (s.setReadout x).gauges = s.gauges := rfl
@[simp] theorem State.setReadout_warn (s : State) (x : Readout) : (s.setReadout x).warn = s.warn := rfl
@[simp] theorem State.setReadout_chime (s : State) (x : Readout) : (s.setReadout x).chime = s.chime := rfl
@[simp] theorem State.setReadout_service (s : State) (x : Readout) : (s.setReadout x).service = s.service := rfl
@[simp] theorem State.setReadout_readout (s : State) (x : Readout) : (s.setReadout x).readout = x := rfl
@[simp] theorem State.setReadout_tally (s : State) (x : Readout) : (s.setReadout x).tally = s.tally := rfl
@[simp] theorem State.setReadout_pending (s : State) (x : Readout) : (s.setReadout x).pending = s.pending := rfl
@[simp] theorem State.setReadout_idled (s : State) (x : Readout) : (s.setReadout x).idled = s.idled := rfl

@[simp] theorem State.setTally_pins (s : State) (x : OwnTallies) : (s.setTally x).pins = s.pins := rfl
@[simp] theorem State.setTally_mem (s : State) (x : OwnTallies) : (s.setTally x).mem = s.mem := rfl
@[simp] theorem State.setTally_cal (s : State) (x : OwnTallies) : (s.setTally x).cal = s.cal := rfl
@[simp] theorem State.setTally_pw (s : State) (x : OwnTallies) : (s.setTally x).pw = s.pw := rfl
@[simp] theorem State.setTally_line (s : State) (x : OwnTallies) : (s.setTally x).line = s.line := rfl
@[simp] theorem State.setTally_sig (s : State) (x : OwnTallies) : (s.setTally x).sig = s.sig := rfl
@[simp] theorem State.setTally_peer (s : State) (x : OwnTallies) : (s.setTally x).peer = s.peer := rfl
@[simp] theorem State.setTally_acc (s : State) (x : OwnTallies) : (s.setTally x).acc = s.acc := rfl
@[simp] theorem State.setTally_trip (s : State) (x : OwnTallies) : (s.setTally x).trip = s.trip := rfl
@[simp] theorem State.setTally_gauges (s : State) (x : OwnTallies) : (s.setTally x).gauges = s.gauges := rfl
@[simp] theorem State.setTally_warn (s : State) (x : OwnTallies) : (s.setTally x).warn = s.warn := rfl
@[simp] theorem State.setTally_chime (s : State) (x : OwnTallies) : (s.setTally x).chime = s.chime := rfl
@[simp] theorem State.setTally_service (s : State) (x : OwnTallies) : (s.setTally x).service = s.service := rfl
@[simp] theorem State.setTally_readout (s : State) (x : OwnTallies) : (s.setTally x).readout = s.readout := rfl
@[simp] theorem State.setTally_tally (s : State) (x : OwnTallies) : (s.setTally x).tally = x := rfl
@[simp] theorem State.setTally_pending (s : State) (x : OwnTallies) : (s.setTally x).pending = s.pending := rfl
@[simp] theorem State.setTally_idled (s : State) (x : OwnTallies) : (s.setTally x).idled = s.idled := rfl

@[simp] theorem State.setPending_pins (s : State) (x : List Instr) : (s.setPending x).pins = s.pins := rfl
@[simp] theorem State.setPending_mem (s : State) (x : List Instr) : (s.setPending x).mem = s.mem := rfl
@[simp] theorem State.setPending_cal (s : State) (x : List Instr) : (s.setPending x).cal = s.cal := rfl
@[simp] theorem State.setPending_pw (s : State) (x : List Instr) : (s.setPending x).pw = s.pw := rfl
@[simp] theorem State.setPending_line (s : State) (x : List Instr) : (s.setPending x).line = s.line := rfl
@[simp] theorem State.setPending_sig (s : State) (x : List Instr) : (s.setPending x).sig = s.sig := rfl
@[simp] theorem State.setPending_peer (s : State) (x : List Instr) : (s.setPending x).peer = s.peer := rfl
@[simp] theorem State.setPending_acc (s : State) (x : List Instr) : (s.setPending x).acc = s.acc := rfl
@[simp] theorem State.setPending_trip (s : State) (x : List Instr) : (s.setPending x).trip = s.trip := rfl
@[simp] theorem State.setPending_gauges (s : State) (x : List Instr) : (s.setPending x).gauges = s.gauges := rfl
@[simp] theorem State.setPending_warn (s : State) (x : List Instr) : (s.setPending x).warn = s.warn := rfl
@[simp] theorem State.setPending_chime (s : State) (x : List Instr) : (s.setPending x).chime = s.chime := rfl
@[simp] theorem State.setPending_service (s : State) (x : List Instr) : (s.setPending x).service = s.service := rfl
@[simp] theorem State.setPending_readout (s : State) (x : List Instr) : (s.setPending x).readout = s.readout := rfl
@[simp] theorem State.setPending_tally (s : State) (x : List Instr) : (s.setPending x).tally = s.tally := rfl
@[simp] theorem State.setPending_pending (s : State) (x : List Instr) : (s.setPending x).pending = x := rfl
@[simp] theorem State.setPending_idled (s : State) (x : List Instr) : (s.setPending x).idled = s.idled := rfl

@[simp] theorem State.setIdled_pins (s : State) (x : Nat) : (s.setIdled x).pins = s.pins := rfl
@[simp] theorem State.setIdled_mem (s : State) (x : Nat) : (s.setIdled x).mem = s.mem := rfl
@[simp] theorem State.setIdled_cal (s : State) (x : Nat) : (s.setIdled x).cal = s.cal := rfl
@[simp] theorem State.setIdled_pw (s : State) (x : Nat) : (s.setIdled x).pw = s.pw := rfl
@[simp] theorem State.setIdled_line (s : State) (x : Nat) : (s.setIdled x).line = s.line := rfl
@[simp] theorem State.setIdled_sig (s : State) (x : Nat) : (s.setIdled x).sig = s.sig := rfl
@[simp] theorem State.setIdled_peer (s : State) (x : Nat) : (s.setIdled x).peer = s.peer := rfl
@[simp] theorem State.setIdled_acc (s : State) (x : Nat) : (s.setIdled x).acc = s.acc := rfl
@[simp] theorem State.setIdled_trip (s : State) (x : Nat) : (s.setIdled x).trip = s.trip := rfl
@[simp] theorem State.setIdled_gauges (s : State) (x : Nat) : (s.setIdled x).gauges = s.gauges := rfl
@[simp] theorem State.setIdled_warn (s : State) (x : Nat) : (s.setIdled x).warn = s.warn := rfl
@[simp] theorem State.setIdled_chime (s : State) (x : Nat) : (s.setIdled x).chime = s.chime := rfl
@[simp] theorem State.setIdled_service (s : State) (x : Nat) : (s.setIdled x).service = s.service := rfl
@[simp] theorem State.setIdled_readout (s : State) (x : Nat) : (s.setIdled x).readout = s.readout := rfl
@[simp] theorem State.setIdled_tally (s : State) (x : Nat) : (s.setIdled x).tally = s.tally := rfl
@[simp] theorem State.setIdled_pending (s : State) (x : Nat) : (s.setIdled x).pending = s.pending := rfl
@[simp] theorem State.setIdled_idled (s : State) (x : Nat) : (s.setIdled x).idled = x := rfl

@[simp] theorem State.advanceTo_pins (s : State) (t : Nat) : (s.advanceTo t).pins = s.pins := rfl
@[simp] theorem State.advanceTo_mem (s : State) (t : Nat) : (s.advanceTo t).mem = s.mem := rfl
@[simp] theorem State.advanceTo_cal (s : State) (t : Nat) : (s.advanceTo t).cal = s.cal := rfl
@[simp] theorem State.advanceTo_line (s : State) (t : Nat) : (s.advanceTo t).line = s.line := rfl
@[simp] theorem State.advanceTo_sig (s : State) (t : Nat) : (s.advanceTo t).sig = s.sig := rfl
@[simp] theorem State.advanceTo_peer (s : State) (t : Nat) : (s.advanceTo t).peer = s.peer := rfl
@[simp] theorem State.advanceTo_acc (s : State) (t : Nat) : (s.advanceTo t).acc = s.acc := rfl
@[simp] theorem State.advanceTo_trip (s : State) (t : Nat) : (s.advanceTo t).trip = s.trip := rfl
@[simp] theorem State.advanceTo_gauges (s : State) (t : Nat) : (s.advanceTo t).gauges = s.gauges := rfl
@[simp] theorem State.advanceTo_warn (s : State) (t : Nat) : (s.advanceTo t).warn = s.warn := rfl
@[simp] theorem State.advanceTo_chime (s : State) (t : Nat) : (s.advanceTo t).chime = s.chime := rfl
@[simp] theorem State.advanceTo_service (s : State) (t : Nat) : (s.advanceTo t).service = s.service := rfl
@[simp] theorem State.advanceTo_readout (s : State) (t : Nat) : (s.advanceTo t).readout = s.readout := rfl
@[simp] theorem State.advanceTo_tally (s : State) (t : Nat) : (s.advanceTo t).tally = s.tally := rfl
@[simp] theorem State.advanceTo_pending (s : State) (t : Nat) : (s.advanceTo t).pending = s.pending := rfl
@[simp] theorem State.advanceTo_idled (s : State) (t : Nat) : (s.advanceTo t).idled = s.idled := rfl

/-- Bringing the timebase to a time changes the timebase alone. -/
@[simp] theorem State.advanceTo_pw (s : State) (t : Nat) :
    (s.advanceTo t).pw = { s.pw with time := max s.pw.time t } := rfl

end Sys2Proof.Machine
end

