-- ==== Sys2Proof/Laws/Transmit.lean ====
section
/-! SUPPORT. What the requests to send, the departures and the requests to write can change: for each, every other field of
the state. -/

namespace Sys2Proof.Machine

@[simp] theorem State.queueFrame_frame (s : State) (r : TxResult) :
    (s.queueFrame r).pins = s.pins ∧ (s.queueFrame r).mem = s.mem ∧ (s.queueFrame r).cal = s.cal ∧
    (s.queueFrame r).pw = s.pw ∧ (s.queueFrame r).sig = s.sig ∧ (s.queueFrame r).peer = s.peer ∧
    (s.queueFrame r).acc = s.acc ∧ (s.queueFrame r).trip = s.trip ∧ (s.queueFrame r).gauges = s.gauges ∧
    (s.queueFrame r).warn = s.warn ∧ (s.queueFrame r).chime = s.chime ∧ (s.queueFrame r).service = s.service ∧
    (s.queueFrame r).readout = s.readout ∧ (s.queueFrame r).pending = s.pending := by
  unfold State.queueFrame
  (repeat' split) <;> simp

/-- The reports of a sequence change the Line Port, its tallies and the Peer Supervisor alone. -/
@[simp] theorem sendReports_frame (parts : List (Nat × Nat)) (s : State) :
    (sendReports parts s).pins = s.pins ∧ (sendReports parts s).mem = s.mem ∧ (sendReports parts s).cal = s.cal ∧
      (sendReports parts s).pw = s.pw ∧ (sendReports parts s).sig = s.sig ∧ (sendReports parts s).acc = s.acc ∧
      (sendReports parts s).trip = s.trip ∧ (sendReports parts s).gauges = s.gauges ∧
      (sendReports parts s).warn = s.warn ∧ (sendReports parts s).chime = s.chime ∧
      (sendReports parts s).service = s.service ∧ (sendReports parts s).readout = s.readout ∧
      (sendReports parts s).pending = s.pending := by
  induction parts generalizing s with
  | nil => simp [sendReports]
  | cons p rest ih =>
    unfold sendReports
    simp only
    split
    · simp [ih]
    · simp

@[simp] theorem State.departure_frame (s : State) (k : BitVec 5) :
    (s.departure k).pins = s.pins ∧ (s.departure k).mem = s.mem ∧ (s.departure k).cal = s.cal ∧
    (s.departure k).pw = s.pw ∧ (s.departure k).sig = s.sig ∧ (s.departure k).acc = s.acc ∧
    (s.departure k).trip = s.trip ∧ (s.departure k).gauges = s.gauges ∧ (s.departure k).warn = s.warn ∧
    (s.departure k).chime = s.chime ∧ (s.departure k).service = s.service ∧ (s.departure k).readout = s.readout ∧
    (s.departure k).pending = s.pending := by
  unfold State.departure
  try dsimp only
  (repeat' split) <;> simp

@[simp] theorem State.sendFrame_frame (s : State) (k : BitVec 5) (sub : Option Nat) (d : List Byte) :
    (s.sendFrame k sub d).pins = s.pins ∧ (s.sendFrame k sub d).mem = s.mem ∧ (s.sendFrame k sub d).cal = s.cal ∧
    (s.sendFrame k sub d).pw = s.pw ∧ (s.sendFrame k sub d).sig = s.sig ∧ (s.sendFrame k sub d).acc = s.acc ∧
    (s.sendFrame k sub d).trip = s.trip ∧ (s.sendFrame k sub d).gauges = s.gauges ∧
    (s.sendFrame k sub d).warn = s.warn ∧ (s.sendFrame k sub d).chime = s.chime ∧
    (s.sendFrame k sub d).service = s.service ∧ (s.sendFrame k sub d).readout = s.readout ∧
    (s.sendFrame k sub d).pending = s.pending := by
  unfold State.sendFrame
  try dsimp only
  (repeat' split) <;> simp

@[simp] theorem State.endAttempt_frame (s : State) (ack : Bool) :
    (s.endAttempt ack).pins = s.pins ∧ (s.endAttempt ack).mem = s.mem ∧ (s.endAttempt ack).cal = s.cal ∧
    (s.endAttempt ack).pw = s.pw ∧ (s.endAttempt ack).sig = s.sig ∧ (s.endAttempt ack).acc = s.acc ∧
    (s.endAttempt ack).trip = s.trip ∧ (s.endAttempt ack).gauges = s.gauges ∧ (s.endAttempt ack).warn = s.warn ∧
    (s.endAttempt ack).chime = s.chime ∧ (s.endAttempt ack).service = s.service ∧
    (s.endAttempt ack).readout = s.readout ∧ (s.endAttempt ack).pending = s.pending := by
  unfold State.endAttempt
  try dsimp only
  (repeat' split) <;> simp

@[simp] theorem State.requestWrite_frame (s : State) (k : WriteKey) (d : List Word) :
    (s.requestWrite k d).pins = s.pins ∧ (s.requestWrite k d).mem = s.mem ∧ (s.requestWrite k d).cal = s.cal ∧
    (s.requestWrite k d).line = s.line ∧ (s.requestWrite k d).sig = s.sig ∧ (s.requestWrite k d).peer = s.peer ∧
    (s.requestWrite k d).acc = s.acc ∧ (s.requestWrite k d).trip = s.trip ∧
    (s.requestWrite k d).gauges = s.gauges ∧ (s.requestWrite k d).warn = s.warn ∧
    (s.requestWrite k d).chime = s.chime ∧ (s.requestWrite k d).service = s.service ∧
    (s.requestWrite k d).readout = s.readout ∧ (s.requestWrite k d).tally = s.tally ∧
    (s.requestWrite k d).pending = s.pending := by
  unfold State.requestWrite
  try dsimp only
  simp

@[simp] theorem State.requestOdometer_frame (s : State) :
    (s.requestOdometer).pins = s.pins ∧ (s.requestOdometer).mem = s.mem ∧ (s.requestOdometer).cal = s.cal ∧
    (s.requestOdometer).line = s.line ∧ (s.requestOdometer).sig = s.sig ∧ (s.requestOdometer).peer = s.peer ∧
    (s.requestOdometer).acc = s.acc ∧ (s.requestOdometer).trip = s.trip ∧ (s.requestOdometer).gauges = s.gauges ∧
    (s.requestOdometer).warn = s.warn ∧ (s.requestOdometer).chime = s.chime ∧
    (s.requestOdometer).service = s.service ∧ (s.requestOdometer).readout = s.readout ∧
    (s.requestOdometer).tally = s.tally ∧ (s.requestOdometer).pending = s.pending := by
  unfold State.requestOdometer
  try dsimp only
  (repeat' split) <;> simp

@[simp] theorem State.requestService_frame (s : State) :
    (s.requestService).pins = s.pins ∧ (s.requestService).mem = s.mem ∧ (s.requestService).cal = s.cal ∧
    (s.requestService).line = s.line ∧ (s.requestService).sig = s.sig ∧ (s.requestService).peer = s.peer ∧
    (s.requestService).acc = s.acc ∧ (s.requestService).trip = s.trip ∧ (s.requestService).gauges = s.gauges ∧
    (s.requestService).warn = s.warn ∧ (s.requestService).chime = s.chime ∧
    (s.requestService).service = s.service ∧ (s.requestService).readout = s.readout ∧
    (s.requestService).tally = s.tally ∧ (s.requestService).pending = s.pending := by
  unfold State.requestService
  try dsimp only
  simp

@[simp] theorem State.requestTrip_frame (s : State) :
    (s.requestTrip).pins = s.pins ∧ (s.requestTrip).mem = s.mem ∧ (s.requestTrip).cal = s.cal ∧
    (s.requestTrip).line = s.line ∧ (s.requestTrip).sig = s.sig ∧ (s.requestTrip).peer = s.peer ∧
    (s.requestTrip).acc = s.acc ∧ (s.requestTrip).trip = s.trip ∧ (s.requestTrip).gauges = s.gauges ∧
    (s.requestTrip).warn = s.warn ∧ (s.requestTrip).chime = s.chime ∧ (s.requestTrip).service = s.service ∧
    (s.requestTrip).readout = s.readout ∧ (s.requestTrip).tally = s.tally ∧ (s.requestTrip).pending = s.pending := by
  unfold State.requestTrip
  try dsimp only
  simp

@[simp] theorem State.requestCounters_frame (s : State) :
    (s.requestCounters).pins = s.pins ∧ (s.requestCounters).mem = s.mem ∧ (s.requestCounters).cal = s.cal ∧
    (s.requestCounters).line = s.line ∧ (s.requestCounters).sig = s.sig ∧ (s.requestCounters).peer = s.peer ∧
    (s.requestCounters).acc = s.acc ∧ (s.requestCounters).trip = s.trip ∧ (s.requestCounters).gauges = s.gauges ∧
    (s.requestCounters).warn = s.warn ∧ (s.requestCounters).chime = s.chime ∧
    (s.requestCounters).service = s.service ∧ (s.requestCounters).readout = s.readout ∧
    (s.requestCounters).tally = s.tally ∧ (s.requestCounters).pending = s.pending := by
  unfold State.requestCounters
  try dsimp only
  simp

end Sys2Proof.Machine
end

