-- ==== Sys2Proof/Laws/Blocks.lean ====
section
/-! SUPPORT. What the blocks' shared operations can change: for each, every other field of the state. -/

namespace Sys2Proof.Machine

@[simp] theorem State.finish_frame (s : State) :
    (s.finish).pins = s.pins ∧ (s.finish).mem = s.mem ∧ (s.finish).cal = s.cal ∧ (s.finish).line = s.line ∧
    (s.finish).sig = s.sig ∧ (s.finish).peer = s.peer ∧ (s.finish).acc = s.acc ∧ (s.finish).trip = s.trip ∧
    (s.finish).gauges = s.gauges ∧ (s.finish).chime = s.chime ∧ (s.finish).service = s.service ∧
    (s.finish).readout = s.readout ∧ (s.finish).tally = s.tally ∧ (s.finish).pending = s.pending := by
  unfold State.finish
  try dsimp only
  simp

@[simp] theorem State.chimeReport_frame (s : State) (n : Nat) :
    (s.chimeReport n).pins = s.pins ∧ (s.chimeReport n).mem = s.mem ∧ (s.chimeReport n).cal = s.cal ∧
    (s.chimeReport n).pw = s.pw ∧ (s.chimeReport n).line = s.line ∧ (s.chimeReport n).sig = s.sig ∧
    (s.chimeReport n).peer = s.peer ∧ (s.chimeReport n).acc = s.acc ∧ (s.chimeReport n).trip = s.trip ∧
    (s.chimeReport n).gauges = s.gauges ∧ (s.chimeReport n).chime = s.chime ∧
    (s.chimeReport n).service = s.service ∧ (s.chimeReport n).readout = s.readout ∧
    (s.chimeReport n).tally = s.tally ∧ (s.chimeReport n).pending = s.pending := by
  unfold State.chimeReport
  try dsimp only
  (repeat' split) <;> simp

@[simp] theorem State.offerChime_frame (s : State) (n : Nat) (k : Class) :
    (s.offerChime n k).pins = s.pins ∧ (s.offerChime n k).mem = s.mem ∧ (s.offerChime n k).cal = s.cal ∧
    (s.offerChime n k).pw = s.pw ∧ (s.offerChime n k).line = s.line ∧ (s.offerChime n k).sig = s.sig ∧
    (s.offerChime n k).peer = s.peer ∧ (s.offerChime n k).acc = s.acc ∧ (s.offerChime n k).trip = s.trip ∧
    (s.offerChime n k).gauges = s.gauges ∧ (s.offerChime n k).service = s.service ∧
    (s.offerChime n k).readout = s.readout ∧ (s.offerChime n k).pending = s.pending := by
  have h : ∀ (l : List Nat) (u : State), (l.foldl State.chimeReport u).pins = u.pins ∧ (l.foldl State.chimeReport u).mem = u.mem ∧
      (l.foldl State.chimeReport u).cal = u.cal ∧ (l.foldl State.chimeReport u).pw = u.pw ∧
      (l.foldl State.chimeReport u).line = u.line ∧ (l.foldl State.chimeReport u).sig = u.sig ∧
      (l.foldl State.chimeReport u).peer = u.peer ∧ (l.foldl State.chimeReport u).acc = u.acc ∧
      (l.foldl State.chimeReport u).trip = u.trip ∧ (l.foldl State.chimeReport u).gauges = u.gauges ∧
      (l.foldl State.chimeReport u).service = u.service ∧ (l.foldl State.chimeReport u).readout = u.readout ∧
      (l.foldl State.chimeReport u).pending = u.pending := by
    intro l
    induction l with
    | nil => intro u; simp
    | cons a l ih => intro u; simpa using ih (u.chimeReport a)
  unfold State.offerChime
  simp only [h]
  split <;> simp

@[simp] theorem State.removeChime_frame (s : State) (n : Nat) :
    (s.removeChime n).pins = s.pins ∧ (s.removeChime n).mem = s.mem ∧ (s.removeChime n).cal = s.cal ∧
    (s.removeChime n).pw = s.pw ∧ (s.removeChime n).line = s.line ∧ (s.removeChime n).sig = s.sig ∧
    (s.removeChime n).peer = s.peer ∧ (s.removeChime n).acc = s.acc ∧ (s.removeChime n).trip = s.trip ∧
    (s.removeChime n).gauges = s.gauges ∧ (s.removeChime n).warn = s.warn ∧ (s.removeChime n).service = s.service ∧
    (s.removeChime n).readout = s.readout ∧ (s.removeChime n).tally = s.tally ∧
    (s.removeChime n).pending = s.pending := by
  unfold State.removeChime
  try dsimp only
  simp

@[simp] theorem State.raiseWarning_frame (s : State) (n : Nat) (e : Warning) :
    (s.raiseWarning n e).pins = s.pins ∧ (s.raiseWarning n e).mem = s.mem ∧ (s.raiseWarning n e).cal = s.cal ∧
    (s.raiseWarning n e).pw = s.pw ∧ (s.raiseWarning n e).line = s.line ∧ (s.raiseWarning n e).sig = s.sig ∧
    (s.raiseWarning n e).peer = s.peer ∧ (s.raiseWarning n e).acc = s.acc ∧ (s.raiseWarning n e).trip = s.trip ∧
    (s.raiseWarning n e).gauges = s.gauges ∧ (s.raiseWarning n e).service = s.service ∧
    (s.raiseWarning n e).readout = s.readout ∧ (s.raiseWarning n e).pending = s.pending := by
  unfold State.raiseWarning
  try dsimp only
  (repeat' split) <;> simp

@[simp] theorem State.storeAndSilence_frame (s : State) (n : Nat) (e : Warning) :
    (s.storeAndSilence n e).pins = s.pins ∧ (s.storeAndSilence n e).mem = s.mem ∧
    (s.storeAndSilence n e).cal = s.cal ∧ (s.storeAndSilence n e).pw = s.pw ∧
    (s.storeAndSilence n e).line = s.line ∧ (s.storeAndSilence n e).sig = s.sig ∧
    (s.storeAndSilence n e).peer = s.peer ∧ (s.storeAndSilence n e).acc = s.acc ∧
    (s.storeAndSilence n e).trip = s.trip ∧ (s.storeAndSilence n e).gauges = s.gauges ∧
    (s.storeAndSilence n e).service = s.service ∧ (s.storeAndSilence n e).readout = s.readout ∧
    (s.storeAndSilence n e).tally = s.tally ∧ (s.storeAndSilence n e).pending = s.pending := by
  unfold State.storeAndSilence
  try dsimp only
  simp

@[simp] theorem State.evalLevel_frame (s : State) (n : Nat) (e : Warning) (c : Bool) :
    (s.evalLevel n e c).pins = s.pins ∧ (s.evalLevel n e c).mem = s.mem ∧ (s.evalLevel n e c).cal = s.cal ∧
    (s.evalLevel n e c).pw = s.pw ∧ (s.evalLevel n e c).line = s.line ∧ (s.evalLevel n e c).sig = s.sig ∧
    (s.evalLevel n e c).peer = s.peer ∧ (s.evalLevel n e c).acc = s.acc ∧ (s.evalLevel n e c).trip = s.trip ∧
    (s.evalLevel n e c).gauges = s.gauges ∧ (s.evalLevel n e c).service = s.service ∧
    (s.evalLevel n e c).readout = s.readout ∧ (s.evalLevel n e c).pending = s.pending := by
  unfold State.evalLevel
  try dsimp only
  (repeat' split) <;> simp

@[simp] theorem State.evalEdge_frame (s : State) (n : Nat) (e : Warning) (l : Option Bool) (c : Bool) :
    (s.evalEdge n e l c).pins = s.pins ∧ (s.evalEdge n e l c).mem = s.mem ∧ (s.evalEdge n e l c).cal = s.cal ∧
    (s.evalEdge n e l c).pw = s.pw ∧ (s.evalEdge n e l c).line = s.line ∧ (s.evalEdge n e l c).sig = s.sig ∧
    (s.evalEdge n e l c).peer = s.peer ∧ (s.evalEdge n e l c).acc = s.acc ∧ (s.evalEdge n e l c).trip = s.trip ∧
    (s.evalEdge n e l c).gauges = s.gauges ∧ (s.evalEdge n e l c).service = s.service ∧
    (s.evalEdge n e l c).readout = s.readout ∧ (s.evalEdge n e l c).pending = s.pending := by
  unfold State.evalEdge
  try dsimp only
  (repeat' split) <;> simp

@[simp] theorem State.evalEntry_frame (s : State) (n : Nat) (e : Warning) (c : Bool) :
    (s.evalEntry n e c).pins = s.pins ∧ (s.evalEntry n e c).mem = s.mem ∧ (s.evalEntry n e c).cal = s.cal ∧
    (s.evalEntry n e c).pw = s.pw ∧ (s.evalEntry n e c).line = s.line ∧ (s.evalEntry n e c).sig = s.sig ∧
    (s.evalEntry n e c).peer = s.peer ∧ (s.evalEntry n e c).acc = s.acc ∧ (s.evalEntry n e c).trip = s.trip ∧
    (s.evalEntry n e c).gauges = s.gauges ∧ (s.evalEntry n e c).service = s.service ∧
    (s.evalEntry n e c).readout = s.readout ∧ (s.evalEntry n e c).pending = s.pending := by
  unfold State.evalEntry
  try dsimp only
  (repeat' split) <;> simp

@[simp] theorem State.sampleWarnings_frame (s : State) (l : BitVec 16) :
    (s.sampleWarnings l).pins = s.pins ∧ (s.sampleWarnings l).mem = s.mem ∧ (s.sampleWarnings l).cal = s.cal ∧
    (s.sampleWarnings l).pw = s.pw ∧ (s.sampleWarnings l).line = s.line ∧ (s.sampleWarnings l).sig = s.sig ∧
    (s.sampleWarnings l).peer = s.peer ∧ (s.sampleWarnings l).acc = s.acc ∧ (s.sampleWarnings l).trip = s.trip ∧
    (s.sampleWarnings l).gauges = s.gauges ∧ (s.sampleWarnings l).chime = s.chime ∧
    (s.sampleWarnings l).service = s.service ∧ (s.sampleWarnings l).readout = s.readout ∧
    (s.sampleWarnings l).tally = s.tally ∧ (s.sampleWarnings l).pending = s.pending := by
  unfold State.sampleWarnings
  try dsimp only
  simp

@[simp] theorem State.evaluate_frame (s : State) (l : BitVec 16) :
    (s.evaluate l).pins = s.pins ∧ (s.evaluate l).mem = s.mem ∧ (s.evaluate l).cal = s.cal ∧
    (s.evaluate l).pw = s.pw ∧ (s.evaluate l).line = s.line ∧ (s.evaluate l).sig = s.sig ∧
    (s.evaluate l).peer = s.peer ∧ (s.evaluate l).acc = s.acc ∧ (s.evaluate l).trip = s.trip ∧
    (s.evaluate l).gauges = s.gauges ∧ (s.evaluate l).service = s.service ∧ (s.evaluate l).readout = s.readout ∧
    (s.evaluate l).pending = s.pending := by
  have h : ∀ (l : List Nat) (a u : State) (c : Bool), (l.foldl (State.evalPosition a c) u).pins = u.pins ∧ (l.foldl (State.evalPosition a c) u).mem = u.mem ∧
      (l.foldl (State.evalPosition a c) u).cal = u.cal ∧ (l.foldl (State.evalPosition a c) u).pw = u.pw ∧
      (l.foldl (State.evalPosition a c) u).line = u.line ∧ (l.foldl (State.evalPosition a c) u).sig = u.sig ∧
      (l.foldl (State.evalPosition a c) u).peer = u.peer ∧ (l.foldl (State.evalPosition a c) u).acc = u.acc ∧
      (l.foldl (State.evalPosition a c) u).trip = u.trip ∧ (l.foldl (State.evalPosition a c) u).gauges = u.gauges ∧
      (l.foldl (State.evalPosition a c) u).service = u.service ∧
      (l.foldl (State.evalPosition a c) u).readout = u.readout ∧
      (l.foldl (State.evalPosition a c) u).pending = u.pending := by
    intro l
    induction l with
    | nil => intros; simp
    | cons x l ih =>
      intro a u c
      have hx : (State.evalPosition a c u x).pins = u.pins ∧ (State.evalPosition a c u x).mem = u.mem ∧
      (State.evalPosition a c u x).cal = u.cal ∧ (State.evalPosition a c u x).pw = u.pw ∧
      (State.evalPosition a c u x).line = u.line ∧ (State.evalPosition a c u x).sig = u.sig ∧
      (State.evalPosition a c u x).peer = u.peer ∧ (State.evalPosition a c u x).acc = u.acc ∧
      (State.evalPosition a c u x).trip = u.trip ∧ (State.evalPosition a c u x).gauges = u.gauges ∧
      (State.evalPosition a c u x).service = u.service ∧ (State.evalPosition a c u x).readout = u.readout ∧
      (State.evalPosition a c u x).pending = u.pending := by
        unfold State.evalPosition; split <;> simp
      simp only [List.foldl_cons, ih, hx, and_self]
  unfold State.evaluate
  simp [h]

@[simp] theorem State.acknowledgeEntry_frame (s : State) (n : Nat) (e : Warning) :
    (s.acknowledgeEntry n e).pins = s.pins ∧ (s.acknowledgeEntry n e).mem = s.mem ∧
    (s.acknowledgeEntry n e).cal = s.cal ∧ (s.acknowledgeEntry n e).pw = s.pw ∧
    (s.acknowledgeEntry n e).line = s.line ∧ (s.acknowledgeEntry n e).sig = s.sig ∧
    (s.acknowledgeEntry n e).peer = s.peer ∧ (s.acknowledgeEntry n e).acc = s.acc ∧
    (s.acknowledgeEntry n e).trip = s.trip ∧ (s.acknowledgeEntry n e).gauges = s.gauges ∧
    (s.acknowledgeEntry n e).service = s.service ∧ (s.acknowledgeEntry n e).readout = s.readout ∧
    (s.acknowledgeEntry n e).tally = s.tally ∧ (s.acknowledgeEntry n e).pending = s.pending := by
  unfold State.acknowledgeEntry
  try dsimp only
  (repeat' split) <;> simp

@[simp] theorem State.startLampTest_frame (s : State) :
    (s.startLampTest).pins = s.pins ∧ (s.startLampTest).mem = s.mem ∧ (s.startLampTest).cal = s.cal ∧
    (s.startLampTest).pw = s.pw ∧ (s.startLampTest).line = s.line ∧ (s.startLampTest).sig = s.sig ∧
    (s.startLampTest).peer = s.peer ∧ (s.startLampTest).acc = s.acc ∧ (s.startLampTest).trip = s.trip ∧
    (s.startLampTest).gauges = s.gauges ∧ (s.startLampTest).chime = s.chime ∧
    (s.startLampTest).service = s.service ∧ (s.startLampTest).readout = s.readout ∧
    (s.startLampTest).tally = s.tally ∧ (s.startLampTest).pending = s.pending := by
  unfold State.startLampTest
  try dsimp only
  simp

@[simp] theorem State.evaluateItems_frame (s : State) :
    (s.evaluateItems).pins = s.pins ∧ (s.evaluateItems).mem = s.mem ∧ (s.evaluateItems).cal = s.cal ∧
    (s.evaluateItems).pw = s.pw ∧ (s.evaluateItems).line = s.line ∧ (s.evaluateItems).sig = s.sig ∧
    (s.evaluateItems).peer = s.peer ∧ (s.evaluateItems).acc = s.acc ∧ (s.evaluateItems).trip = s.trip ∧
    (s.evaluateItems).gauges = s.gauges ∧ (s.evaluateItems).warn = s.warn ∧ (s.evaluateItems).chime = s.chime ∧
    (s.evaluateItems).readout = s.readout ∧ (s.evaluateItems).tally = s.tally ∧
    (s.evaluateItems).pending = s.pending := by
  unfold State.evaluateItems
  try dsimp only
  simp

@[simp] theorem State.rebaseItem_frame (s : State) (n o d h : Nat) :
    (s.rebaseItem n o d h).pins = s.pins ∧ (s.rebaseItem n o d h).mem = s.mem ∧
    (s.rebaseItem n o d h).cal = s.cal ∧ (s.rebaseItem n o d h).pw = s.pw ∧ (s.rebaseItem n o d h).line = s.line ∧
    (s.rebaseItem n o d h).sig = s.sig ∧ (s.rebaseItem n o d h).peer = s.peer ∧
    (s.rebaseItem n o d h).acc = s.acc ∧ (s.rebaseItem n o d h).trip = s.trip ∧
    (s.rebaseItem n o d h).gauges = s.gauges ∧ (s.rebaseItem n o d h).warn = s.warn ∧
    (s.rebaseItem n o d h).chime = s.chime ∧ (s.rebaseItem n o d h).readout = s.readout ∧
    (s.rebaseItem n o d h).tally = s.tally ∧ (s.rebaseItem n o d h).pending = s.pending := by
  unfold State.rebaseItem
  try dsimp only
  simp

@[simp] theorem State.hourStep_frame (s : State) :
    (s.hourStep).pins = s.pins ∧ (s.hourStep).mem = s.mem ∧ (s.hourStep).cal = s.cal ∧ (s.hourStep).line = s.line ∧
    (s.hourStep).sig = s.sig ∧ (s.hourStep).peer = s.peer ∧ (s.hourStep).acc = s.acc ∧ (s.hourStep).trip = s.trip ∧
    (s.hourStep).gauges = s.gauges ∧ (s.hourStep).warn = s.warn ∧ (s.hourStep).chime = s.chime ∧
    (s.hourStep).readout = s.readout ∧ (s.hourStep).tally = s.tally ∧ (s.hourStep).pending = s.pending := by
  unfold State.hourStep
  try dsimp only
  simp

@[simp] theorem State.tenthStep_frame (s : State) :
    (s.tenthStep).pins = s.pins ∧ (s.tenthStep).mem = s.mem ∧ (s.tenthStep).cal = s.cal ∧
    (s.tenthStep).line = s.line ∧ (s.tenthStep).sig = s.sig ∧ (s.tenthStep).peer = s.peer ∧
    (s.tenthStep).acc = s.acc ∧ (s.tenthStep).trip = s.trip ∧ (s.tenthStep).gauges = s.gauges ∧
    (s.tenthStep).warn = s.warn ∧ (s.tenthStep).chime = s.chime ∧ (s.tenthStep).readout = s.readout ∧
    (s.tenthStep).tally = s.tally ∧ (s.tenthStep).pending = s.pending := by
  unfold State.tenthStep
  try dsimp only
  (repeat' split) <;> simp

@[simp] theorem State.engineSecond_frame (s : State) :
    (s.engineSecond).pins = s.pins ∧ (s.engineSecond).mem = s.mem ∧ (s.engineSecond).cal = s.cal ∧
    (s.engineSecond).line = s.line ∧ (s.engineSecond).sig = s.sig ∧ (s.engineSecond).peer = s.peer ∧
    (s.engineSecond).acc = s.acc ∧ (s.engineSecond).trip = s.trip ∧ (s.engineSecond).gauges = s.gauges ∧
    (s.engineSecond).warn = s.warn ∧ (s.engineSecond).chime = s.chime ∧ (s.engineSecond).readout = s.readout ∧
    (s.engineSecond).tally = s.tally ∧ (s.engineSecond).pending = s.pending := by
  unfold State.engineSecond
  try dsimp only
  (repeat' split) <;> simp

@[simp] theorem State.announce_frame (s : State) :
    (s.announce).pins = s.pins ∧ (s.announce).mem = s.mem ∧ (s.announce).cal = s.cal ∧ (s.announce).pw = s.pw ∧
    (s.announce).sig = s.sig ∧ (s.announce).acc = s.acc ∧ (s.announce).trip = s.trip ∧
    (s.announce).gauges = s.gauges ∧ (s.announce).warn = s.warn ∧ (s.announce).chime = s.chime ∧
    (s.announce).service = s.service ∧ (s.announce).readout = s.readout ∧ (s.announce).pending = s.pending := by
  unfold State.announce
  try dsimp only
  simp

@[simp] theorem State.adopt_frame (s : State) (v : Nat) :
    (s.adopt v).pins = s.pins ∧ (s.adopt v).mem = s.mem ∧ (s.adopt v).cal = s.cal ∧ (s.adopt v).sig = s.sig ∧
    (s.adopt v).trip = s.trip ∧ (s.adopt v).gauges = s.gauges ∧ (s.adopt v).warn = s.warn ∧
    (s.adopt v).chime = s.chime ∧ (s.adopt v).readout = s.readout ∧ (s.adopt v).pending = s.pending := by
  unfold State.adopt
  try dsimp only
  (repeat' split) <;> simp

@[simp] theorem State.disagreement_frame (s : State) :
    (s.disagreement).pins = s.pins ∧ (s.disagreement).mem = s.mem ∧ (s.disagreement).cal = s.cal ∧
    (s.disagreement).pw = s.pw ∧ (s.disagreement).line = s.line ∧ (s.disagreement).sig = s.sig ∧
    (s.disagreement).peer = s.peer ∧ (s.disagreement).trip = s.trip ∧ (s.disagreement).gauges = s.gauges ∧
    (s.disagreement).warn = s.warn ∧ (s.disagreement).chime = s.chime ∧ (s.disagreement).service = s.service ∧
    (s.disagreement).readout = s.readout ∧ (s.disagreement).pending = s.pending := by
  unfold State.disagreement
  try dsimp only
  simp

@[simp] theorem State.peerOdometer_frame (s : State) (p : Nat) :
    (s.peerOdometer p).pins = s.pins ∧ (s.peerOdometer p).mem = s.mem ∧ (s.peerOdometer p).cal = s.cal ∧
    (s.peerOdometer p).sig = s.sig ∧ (s.peerOdometer p).trip = s.trip ∧ (s.peerOdometer p).gauges = s.gauges ∧
    (s.peerOdometer p).warn = s.warn ∧ (s.peerOdometer p).chime = s.chime ∧
    (s.peerOdometer p).readout = s.readout ∧ (s.peerOdometer p).pending = s.pending := by
  unfold State.peerOdometer
  try dsimp only
  (repeat' split) <;> simp

@[simp] theorem State.unknownSecond_frame (s : State) :
    (s.unknownSecond).pins = s.pins ∧ (s.unknownSecond).mem = s.mem ∧ (s.unknownSecond).cal = s.cal ∧
    (s.unknownSecond).sig = s.sig ∧ (s.unknownSecond).trip = s.trip ∧ (s.unknownSecond).gauges = s.gauges ∧
    (s.unknownSecond).warn = s.warn ∧ (s.unknownSecond).chime = s.chime ∧ (s.unknownSecond).service = s.service ∧
    (s.unknownSecond).readout = s.readout ∧ (s.unknownSecond).pending = s.pending := by
  unfold State.unknownSecond
  try dsimp only
  (repeat' split) <;> simp

@[simp] theorem State.countOdometer_frame (s : State) (m : Nat) :
    (s.countOdometer m).pins = s.pins ∧ (s.countOdometer m).mem = s.mem ∧ (s.countOdometer m).cal = s.cal ∧
    (s.countOdometer m).sig = s.sig ∧ (s.countOdometer m).trip = s.trip ∧ (s.countOdometer m).gauges = s.gauges ∧
    (s.countOdometer m).warn = s.warn ∧ (s.countOdometer m).chime = s.chime ∧
    (s.countOdometer m).readout = s.readout ∧ (s.countOdometer m).pending = s.pending := by
  unfold State.countOdometer
  try dsimp only
  (repeat' split) <;> simp

@[simp] theorem State.distanceDelta_frame (s : State) (d : Nat) :
    (s.distanceDelta d).pins = s.pins ∧ (s.distanceDelta d).mem = s.mem ∧ (s.distanceDelta d).cal = s.cal ∧
    (s.distanceDelta d).sig = s.sig ∧ (s.distanceDelta d).gauges = s.gauges ∧ (s.distanceDelta d).warn = s.warn ∧
    (s.distanceDelta d).chime = s.chime ∧ (s.distanceDelta d).readout = s.readout ∧
    (s.distanceDelta d).pending = s.pending := by
  unfold State.distanceDelta
  try dsimp only
  (repeat' split) <;> simp

@[simp] theorem State.fuelDelta_frame (s : State) (d : Nat) :
    (s.fuelDelta d).pins = s.pins ∧ (s.fuelDelta d).mem = s.mem ∧ (s.fuelDelta d).cal = s.cal ∧
    (s.fuelDelta d).pw = s.pw ∧ (s.fuelDelta d).line = s.line ∧ (s.fuelDelta d).sig = s.sig ∧
    (s.fuelDelta d).peer = s.peer ∧ (s.fuelDelta d).gauges = s.gauges ∧ (s.fuelDelta d).warn = s.warn ∧
    (s.fuelDelta d).chime = s.chime ∧ (s.fuelDelta d).service = s.service ∧ (s.fuelDelta d).readout = s.readout ∧
    (s.fuelDelta d).tally = s.tally ∧ (s.fuelDelta d).pending = s.pending := by
  unfold State.fuelDelta
  try dsimp only
  (repeat' split) <;> simp

@[simp] theorem State.distanceCount_frame (s : State) (c : Word) (r : Bool) :
    (s.distanceCount c r).pins = s.pins ∧ (s.distanceCount c r).mem = s.mem ∧ (s.distanceCount c r).cal = s.cal ∧
    (s.distanceCount c r).sig = s.sig ∧ (s.distanceCount c r).gauges = s.gauges ∧
    (s.distanceCount c r).warn = s.warn ∧ (s.distanceCount c r).chime = s.chime ∧
    (s.distanceCount c r).readout = s.readout ∧ (s.distanceCount c r).pending = s.pending := by
  unfold State.distanceCount
  try dsimp only
  (repeat' split) <;> simp

@[simp] theorem State.fuelCount_frame (s : State) (c : Word) (r : Bool) :
    (s.fuelCount c r).pins = s.pins ∧ (s.fuelCount c r).mem = s.mem ∧ (s.fuelCount c r).cal = s.cal ∧
    (s.fuelCount c r).pw = s.pw ∧ (s.fuelCount c r).line = s.line ∧ (s.fuelCount c r).sig = s.sig ∧
    (s.fuelCount c r).peer = s.peer ∧ (s.fuelCount c r).gauges = s.gauges ∧ (s.fuelCount c r).warn = s.warn ∧
    (s.fuelCount c r).chime = s.chime ∧ (s.fuelCount c r).service = s.service ∧
    (s.fuelCount c r).readout = s.readout ∧ (s.fuelCount c r).pending = s.pending := by
  unfold State.fuelCount
  try dsimp only
  (repeat' split) <;> simp

@[simp] theorem State.compose_frame (s : State) :
    (s.compose).pins = s.pins ∧ (s.compose).mem = s.mem ∧ (s.compose).cal = s.cal ∧ (s.compose).pw = s.pw ∧
    (s.compose).line = s.line ∧ (s.compose).sig = s.sig ∧ (s.compose).peer = s.peer ∧ (s.compose).acc = s.acc ∧
    (s.compose).trip = s.trip ∧ (s.compose).gauges = s.gauges ∧ (s.compose).warn = s.warn ∧
    (s.compose).chime = s.chime ∧ (s.compose).service = s.service ∧ (s.compose).tally = s.tally ∧
    (s.compose).pending = s.pending := by
  unfold State.compose
  try dsimp only
  (repeat' split) <;> simp

@[simp] theorem State.dayFollows_frame (s : State) :
    (s.dayFollows).pins = s.pins ∧ (s.dayFollows).mem = s.mem ∧ (s.dayFollows).cal = s.cal ∧
    (s.dayFollows).line = s.line ∧ (s.dayFollows).sig = s.sig ∧ (s.dayFollows).peer = s.peer ∧
    (s.dayFollows).acc = s.acc ∧ (s.dayFollows).trip = s.trip ∧ (s.dayFollows).gauges = s.gauges ∧
    (s.dayFollows).warn = s.warn ∧ (s.dayFollows).chime = s.chime ∧ (s.dayFollows).readout = s.readout ∧
    (s.dayFollows).tally = s.tally ∧ (s.dayFollows).pending = s.pending := by
  unfold State.dayFollows
  try dsimp only
  simp

@[simp] theorem State.dayStep_frame (s : State) :
    (s.dayStep).pins = s.pins ∧ (s.dayStep).mem = s.mem ∧ (s.dayStep).cal = s.cal ∧ (s.dayStep).line = s.line ∧
    (s.dayStep).sig = s.sig ∧ (s.dayStep).peer = s.peer ∧ (s.dayStep).acc = s.acc ∧ (s.dayStep).trip = s.trip ∧
    (s.dayStep).gauges = s.gauges ∧ (s.dayStep).warn = s.warn ∧ (s.dayStep).chime = s.chime ∧
    (s.dayStep).tally = s.tally ∧ (s.dayStep).pending = s.pending := by
  unfold State.dayStep
  try dsimp only
  (repeat' split) <;> simp

@[simp] theorem State.sendClock_frame (s : State) :
    (s.sendClock).pins = s.pins ∧ (s.sendClock).mem = s.mem ∧ (s.sendClock).cal = s.cal ∧ (s.sendClock).pw = s.pw ∧
    (s.sendClock).sig = s.sig ∧ (s.sendClock).acc = s.acc ∧ (s.sendClock).trip = s.trip ∧
    (s.sendClock).gauges = s.gauges ∧ (s.sendClock).warn = s.warn ∧ (s.sendClock).chime = s.chime ∧
    (s.sendClock).service = s.service ∧ (s.sendClock).readout = s.readout ∧ (s.sendClock).pending = s.pending := by
  unfold State.sendClock
  try dsimp only
  (repeat' split) <;> simp

@[simp] theorem State.clockHour_frame (s : State) :
    (s.clockHour).pins = s.pins ∧ (s.clockHour).mem = s.mem ∧ (s.clockHour).cal = s.cal ∧
    (s.clockHour).line = s.line ∧ (s.clockHour).sig = s.sig ∧ (s.clockHour).peer = s.peer ∧
    (s.clockHour).acc = s.acc ∧ (s.clockHour).trip = s.trip ∧ (s.clockHour).gauges = s.gauges ∧
    (s.clockHour).warn = s.warn ∧ (s.clockHour).chime = s.chime ∧ (s.clockHour).tally = s.tally ∧
    (s.clockHour).pending = s.pending := by
  unfold State.clockHour
  try dsimp only
  (repeat' split) <;> simp

@[simp] theorem State.clockMinute_frame (s : State) :
    (s.clockMinute).pins = s.pins ∧ (s.clockMinute).mem = s.mem ∧ (s.clockMinute).cal = s.cal ∧
    (s.clockMinute).line = s.line ∧ (s.clockMinute).sig = s.sig ∧ (s.clockMinute).peer = s.peer ∧
    (s.clockMinute).acc = s.acc ∧ (s.clockMinute).trip = s.trip ∧ (s.clockMinute).gauges = s.gauges ∧
    (s.clockMinute).warn = s.warn ∧ (s.clockMinute).chime = s.chime ∧ (s.clockMinute).tally = s.tally ∧
    (s.clockMinute).pending = s.pending := by
  unfold State.clockMinute
  try dsimp only
  (repeat' split) <;> simp

@[simp] theorem State.clockSecond_frame (s : State) :
    (s.clockSecond).pins = s.pins ∧ (s.clockSecond).mem = s.mem ∧ (s.clockSecond).cal = s.cal ∧
    (s.clockSecond).sig = s.sig ∧ (s.clockSecond).acc = s.acc ∧ (s.clockSecond).trip = s.trip ∧
    (s.clockSecond).gauges = s.gauges ∧ (s.clockSecond).warn = s.warn ∧ (s.clockSecond).chime = s.chime ∧
    (s.clockSecond).pending = s.pending := by
  unfold State.clockSecond
  try dsimp only
  (repeat' split) <;> simp

@[simp] theorem State.handOver_frame (s : State) (k : SignalKind) (f : Stored) (r : Bool) :
    (s.handOver k f r).pins = s.pins ∧ (s.handOver k f r).mem = s.mem ∧ (s.handOver k f r).cal = s.cal ∧
    (s.handOver k f r).sig = s.sig ∧ (s.handOver k f r).gauges = s.gauges ∧ (s.handOver k f r).warn = s.warn ∧
    (s.handOver k f r).chime = s.chime ∧ (s.handOver k f r).readout = s.readout ∧
    (s.handOver k f r).pending = s.pending := by
  unfold State.handOver
  try dsimp only
  (repeat' split) <;> simp

@[simp] theorem State.signalFrame_frame (s : State) (k : SignalKind) (f : Stored) :
    (s.signalFrame k f).pins = s.pins ∧ (s.signalFrame k f).mem = s.mem ∧ (s.signalFrame k f).cal = s.cal ∧
    (s.signalFrame k f).gauges = s.gauges ∧ (s.signalFrame k f).warn = s.warn ∧
    (s.signalFrame k f).chime = s.chime ∧ (s.signalFrame k f).readout = s.readout ∧
    (s.signalFrame k f).pending = s.pending := by
  unfold State.signalFrame
  try dsimp only
  (repeat' split) <;> simp

@[simp] theorem State.statusFrame_frame (s : State) (f : Stored) :
    (s.statusFrame f).pins = s.pins ∧ (s.statusFrame f).mem = s.mem ∧ (s.statusFrame f).cal = s.cal ∧
    (s.statusFrame f).pw = s.pw ∧ (s.statusFrame f).line = s.line ∧ (s.statusFrame f).sig = s.sig ∧
    (s.statusFrame f).acc = s.acc ∧ (s.statusFrame f).trip = s.trip ∧ (s.statusFrame f).gauges = s.gauges ∧
    (s.statusFrame f).warn = s.warn ∧ (s.statusFrame f).chime = s.chime ∧ (s.statusFrame f).service = s.service ∧
    (s.statusFrame f).readout = s.readout ∧ (s.statusFrame f).tally = s.tally ∧
    (s.statusFrame f).pending = s.pending := by
  unfold State.statusFrame
  try dsimp only
  (repeat' split) <;> simp

@[simp] theorem State.markAbsent_frame (s : State) (n : StationNo) :
    (s.markAbsent n).pins = s.pins ∧ (s.markAbsent n).mem = s.mem ∧ (s.markAbsent n).cal = s.cal ∧
    (s.markAbsent n).pw = s.pw ∧ (s.markAbsent n).line = s.line ∧ (s.markAbsent n).acc = s.acc ∧
    (s.markAbsent n).trip = s.trip ∧ (s.markAbsent n).gauges = s.gauges ∧ (s.markAbsent n).warn = s.warn ∧
    (s.markAbsent n).chime = s.chime ∧ (s.markAbsent n).service = s.service ∧
    (s.markAbsent n).readout = s.readout ∧ (s.markAbsent n).tally = s.tally ∧ (s.markAbsent n).pending = s.pending := by
  unfold State.markAbsent
  try dsimp only
  simp

@[simp] theorem State.heartbeat_frame (s : State) :
    (s.heartbeat).pins = s.pins ∧ (s.heartbeat).mem = s.mem ∧ (s.heartbeat).cal = s.cal ∧ (s.heartbeat).pw = s.pw ∧
    (s.heartbeat).sig = s.sig ∧ (s.heartbeat).acc = s.acc ∧ (s.heartbeat).trip = s.trip ∧
    (s.heartbeat).gauges = s.gauges ∧ (s.heartbeat).warn = s.warn ∧ (s.heartbeat).chime = s.chime ∧
    (s.heartbeat).service = s.service ∧ (s.heartbeat).readout = s.readout ∧ (s.heartbeat).pending = s.pending := by
  unfold State.heartbeat
  try dsimp only
  (repeat' split) <;> simp

@[simp] theorem State.takeSnapshot_frame (s : State) :
    (s.takeSnapshot).pins = s.pins ∧ (s.takeSnapshot).mem = s.mem ∧ (s.takeSnapshot).cal = s.cal ∧
    (s.takeSnapshot).pw = s.pw ∧ (s.takeSnapshot).sig = s.sig ∧ (s.takeSnapshot).acc = s.acc ∧
    (s.takeSnapshot).trip = s.trip ∧ (s.takeSnapshot).gauges = s.gauges ∧ (s.takeSnapshot).warn = s.warn ∧
    (s.takeSnapshot).chime = s.chime ∧ (s.takeSnapshot).service = s.service ∧
    (s.takeSnapshot).readout = s.readout ∧ (s.takeSnapshot).pending = s.pending := by
  unfold State.takeSnapshot
  try dsimp only
  simp

@[simp] theorem State.tallyRequest_frame (s : State) (f : Frame) :
    (s.tallyRequest f).pins = s.pins ∧ (s.tallyRequest f).mem = s.mem ∧ (s.tallyRequest f).cal = s.cal ∧
    (s.tallyRequest f).pw = s.pw ∧ (s.tallyRequest f).sig = s.sig ∧ (s.tallyRequest f).acc = s.acc ∧
    (s.tallyRequest f).trip = s.trip ∧ (s.tallyRequest f).gauges = s.gauges ∧ (s.tallyRequest f).warn = s.warn ∧
    (s.tallyRequest f).chime = s.chime ∧ (s.tallyRequest f).service = s.service ∧
    (s.tallyRequest f).readout = s.readout ∧ (s.tallyRequest f).pending = s.pending := by
  unfold State.tallyRequest
  try dsimp only
  (repeat' split) <;> simp

/-- What a gauge tick can do to a channel (R64): nothing to one that is OFF; an update that leaves the count at 0; or one more
tick counted. -/
theorem State.tickChannel_cases (s : State) (c : Channel) :
    (c.state = .off ∧ s.tickChannel c = c) ∨
    (c.state ≠ .off ∧ c.cal.divider ≤ c.tick + 1 ∧ s.tickChannel c = s.updateChannel { c with tick := 0 }) ∨
    (c.state ≠ .off ∧ c.tick + 1 < c.cal.divider ∧ s.tickChannel c = { c with tick := c.tick + 1 }) := by
  unfold State.tickChannel
  split
  · exact Or.inl ⟨‹_›, rfl⟩
  · split
    · exact Or.inr (Or.inl ⟨‹_›, ‹_›, rfl⟩)
    · exact Or.inr (Or.inr ⟨‹_›, by omega, rfl⟩)

end Sys2Proof.Machine
end

