-- ==== Sys2Proof/Laws/Memory.lean ====
section
/-! SUPPORT. The serial memory: every write keeps the canonical form, a read after a write, and equal reads of equal
memories. -/

namespace Sys2Proof.Machine

/-- A rising memory with an entry in front. -/
theorem memRising_cons (lo : Option Nat) (a : Nat) (w : Word) (rest : Memory) :
    memRising lo ((a, w) :: rest) = true ↔
      (∀ l, lo = some l → l < a) ∧ w ≠ Config.blankWord ∧ memRising (some a) rest = true := by
  cases lo <;> simp [memRising, and_assoc]

/-- A lower bound serves as well. -/
theorem memRising_of_lt {lo : Option Nat} {b : Nat} {m : Memory} (h : memRising (some b) m = true)
    (hlo : ∀ l, lo = some l → l < b) : memRising lo m = true := by
  cases m with
  | nil => rfl
  | cons x rest =>
    rw [memRising_cons] at h ⊢
    exact ⟨fun l hl => lt_trans (hlo l hl) (h.1 b rfl), h.2⟩

/-- A write keeps the form under any bound that lies below its address. -/
theorem memRising_memWrite {lo : Option Nat} {m : Memory} {a : Nat} {w : Word} (h : memRising lo m = true)
    (hlo : ∀ l, lo = some l → l < a) : memRising lo (memWrite m a w) = true := by
  induction m generalizing lo with
  | nil =>
    unfold memWrite
    split
    · rfl
    · rename_i hw; exact (memRising_cons ..).mpr ⟨hlo, hw, rfl⟩
  | cons x rest ih =>
    obtain ⟨b, v⟩ := x
    obtain ⟨h1, h2, h3⟩ := (memRising_cons ..).mp h
    unfold memWrite
    split
    · rename_i hab
      split
      · exact h
      · rename_i hw
        exact (memRising_cons ..).mpr ⟨hlo, hw, (memRising_cons ..).mpr ⟨fun l hl => by cases hl; exact hab, h2, h3⟩⟩
    · rename_i hab
      split
      · rename_i hEq
        subst hEq
        split
        · exact memRising_of_lt h3 hlo
        · rename_i hw; exact (memRising_cons ..).mpr ⟨hlo, hw, h3⟩
      · rename_i hne
        exact (memRising_cons ..).mpr ⟨h1, h2, ih h3 (fun l hl => by cases hl; omega)⟩

/-- One write keeps the canonical form. -/
theorem memWf_memWrite {m : Memory} (h : memWf m = true) (a : Nat) (w : Word) : memWf (memWrite m a w) = true :=
  memRising_memWrite h (by simp)

/-- A run of writes keeps the canonical form. -/
theorem memWf_memWriteAll {m : Memory} (h : memWf m = true) (a : Nat) (ws : List Word) :
    memWf (memWriteAll m a ws) = true := by
  induction ws generalizing m a with
  | nil => exact h
  | cons w rest ih => exact ih (memWf_memWrite h a w) (a + 1)

/-- A memory whose addresses lie above `a` reads blank at `a`. -/
theorem memRead_of_rising {m : Memory} {a : Nat} (h : memRising (some a) m = true) : memRead m a = Config.blankWord := by
  induction m with
  | nil => rfl
  | cons x rest ih =>
    obtain ⟨b, v⟩ := x
    obtain ⟨h1, _, h3⟩ := (memRising_cons ..).mp h
    have hab := h1 a rfl
    simp only [memRead, if_neg (Nat.ne_of_lt hab)]
    exact ih (memRising_of_lt h3 (fun l hl => by cases hl; exact hab))

/-- A read at the address of a write gives the word written. -/
theorem memRead_memWrite_same {lo : Option Nat} {m : Memory} (h : memRising lo m = true) (a : Nat) (w : Word) :
    memRead (memWrite m a w) a = w := by
  induction m generalizing lo with
  | nil =>
    unfold memWrite
    split
    · rename_i hw; simp [memRead, hw]
    · simp [memRead]
  | cons x rest ih =>
    obtain ⟨b, v⟩ := x
    obtain ⟨_, h2, h3⟩ := (memRising_cons ..).mp h
    unfold memWrite
    split
    · rename_i hab
      split
      · rename_i hw
        subst hw
        simp only [memRead, if_neg (Nat.ne_of_lt hab)]
        exact memRead_of_rising (memRising_of_lt h3 (fun l hl => by cases hl; exact hab))
      · simp [memRead]
    · split
      · rename_i hEq
        subst hEq
        split
        · rename_i hw; subst hw; exact memRead_of_rising h3
        · simp [memRead]
      · rename_i hne
        simp only [memRead, if_neg hne]
        exact ih h3

/-- A read at any other address gives what it gave before. -/
theorem memRead_memWrite_other (m : Memory) {a b : Nat} (w : Word) (hne : b ≠ a) :
    memRead (memWrite m a w) b = memRead m b := by
  induction m with
  | nil =>
    unfold memWrite
    split <;> simp [memRead, hne]
  | cons x rest ih =>
    obtain ⟨c, v⟩ := x
    unfold memWrite
    split
    · split <;> simp [memRead, hne]
    · split
      · rename_i hEq
        subst hEq
        split <;> simp [memRead, hne]
      · simp only [memRead, ih]

/-- A run of writes leaves every word outside it alone. -/
theorem memRead_memWriteAll_other (m : Memory) (a b : Nat) (ws : List Word) (h : b < a ∨ a + ws.length ≤ b) :
    memRead (memWriteAll m a ws) b = memRead m b := by
  induction ws generalizing m a with
  | nil => rfl
  | cons w rest ih =>
    simp only [List.length_cons] at h
    unfold memWriteAll
    rw [ih (memWrite m a w) (a + 1) (by omega), memRead_memWrite_other m w (by omega)]

/-- A run of writes puts each word at its place. -/
theorem memRead_memWriteAll_inside {m : Memory} (hm : memWf m = true) (a k : Nat) (ws : List Word) (h : k < ws.length) :
    memRead (memWriteAll m a ws) (a + k) = ws[k] := by
  induction ws generalizing m a k with
  | nil => simp at h
  | cons w rest ih =>
    unfold memWriteAll
    cases k with
    | zero =>
      rw [memRead_memWriteAll_other _ _ _ _ (by omega)]
      exact memRead_memWrite_same (lo := none) hm a w
    | succ n =>
      have := ih (memWf_memWrite hm a w) (a + 1) n (by simpa using h)
      simpa [Nat.add_assoc, Nat.add_comm 1 n] using this

end Sys2Proof.Machine
end

