-- ==== Sys2Proof/Laws/Power.lean ====
section
/-! SUPPORT. What the changes of power state, the line's slots and the keys can change: for each, every other field of the
state. -/

namespace Sys2Proof.Machine

@[simp] theorem State.setPower_frame (s : State) (p : Power) :
    (s.setPower p).pins = s.pins ∧ (s.setPower p).mem = s.mem ∧ (s.setPower p).cal = s.cal ∧
    (s.setPower p).line = s.line ∧ (s.setPower p).sig = s.sig ∧ (s.setPower p).peer = s.peer ∧
    (s.setPower p).acc = s.acc ∧ (s.setPower p).trip = s.trip ∧ (s.setPower p).gauges = s.gauges ∧
    (s.setPower p).warn = s.warn ∧ (s.setPower p).chime = s.chime ∧ (s.setPower p).service = s.service ∧
    (s.setPower p).readout = s.readout ∧ (s.setPower p).tally = s.tally ∧ (s.setPower p).pending = s.pending := by
  unfold State.setPower
  try dsimp only
  simp

@[simp] theorem State.setFastFill_frame (s : State) (n : Nat) :
    (s.setFastFill n).pins = s.pins ∧ (s.setFastFill n).mem = s.mem ∧ (s.setFastFill n).cal = s.cal ∧
    (s.setFastFill n).pw = s.pw ∧ (s.setFastFill n).line = s.line ∧ (s.setFastFill n).sig = s.sig ∧
    (s.setFastFill n).peer = s.peer ∧ (s.setFastFill n).acc = s.acc ∧ (s.setFastFill n).gauges = s.gauges ∧
    (s.setFastFill n).warn = s.warn ∧ (s.setFastFill n).chime = s.chime ∧ (s.setFastFill n).service = s.service ∧
    (s.setFastFill n).readout = s.readout ∧ (s.setFastFill n).tally = s.tally ∧
    (s.setFastFill n).pending = s.pending := by
  unfold State.setFastFill
  try dsimp only
  simp

@[simp] theorem State.awakenTone_frame (s : State) :
    (s.awakenTone).pins = s.pins ∧ (s.awakenTone).mem = s.mem ∧ (s.awakenTone).cal = s.cal ∧
    (s.awakenTone).pw = s.pw ∧ (s.awakenTone).line = s.line ∧ (s.awakenTone).sig = s.sig ∧
    (s.awakenTone).peer = s.peer ∧ (s.awakenTone).acc = s.acc ∧ (s.awakenTone).trip = s.trip ∧
    (s.awakenTone).gauges = s.gauges ∧ (s.awakenTone).warn = s.warn ∧ (s.awakenTone).service = s.service ∧
    (s.awakenTone).readout = s.readout ∧ (s.awakenTone).tally = s.tally ∧ (s.awakenTone).pending = s.pending := by
  unfold State.awakenTone
  try dsimp only
  simp

@[simp] theorem State.startUnknownTimer_frame (s : State) :
    (s.startUnknownTimer).pins = s.pins ∧ (s.startUnknownTimer).mem = s.mem ∧ (s.startUnknownTimer).cal = s.cal ∧
    (s.startUnknownTimer).pw = s.pw ∧ (s.startUnknownTimer).line = s.line ∧ (s.startUnknownTimer).sig = s.sig ∧
    (s.startUnknownTimer).peer = s.peer ∧ (s.startUnknownTimer).trip = s.trip ∧
    (s.startUnknownTimer).gauges = s.gauges ∧ (s.startUnknownTimer).warn = s.warn ∧
    (s.startUnknownTimer).chime = s.chime ∧ (s.startUnknownTimer).service = s.service ∧
    (s.startUnknownTimer).readout = s.readout ∧ (s.startUnknownTimer).tally = s.tally ∧
    (s.startUnknownTimer).pending = s.pending := by
  unfold State.startUnknownTimer
  try dsimp only
  (repeat' split) <;> simp

@[simp] theorem State.enterCrank_frame (s : State) :
    (s.enterCrank).pins = s.pins ∧ (s.enterCrank).mem = s.mem ∧ (s.enterCrank).cal = s.cal ∧
    (s.enterCrank).line = s.line ∧ (s.enterCrank).sig = s.sig ∧ (s.enterCrank).peer = s.peer ∧
    (s.enterCrank).acc = s.acc ∧ (s.enterCrank).gauges = s.gauges ∧ (s.enterCrank).warn = s.warn ∧
    (s.enterCrank).service = s.service ∧ (s.enterCrank).tally = s.tally ∧ (s.enterCrank).pending = s.pending := by
  unfold State.enterCrank
  try dsimp only
  simp

@[simp] theorem State.crankIfStart_frame (s : State) :
    (s.crankIfStart).pins = s.pins ∧ (s.crankIfStart).mem = s.mem ∧ (s.crankIfStart).cal = s.cal ∧
    (s.crankIfStart).line = s.line ∧ (s.crankIfStart).sig = s.sig ∧ (s.crankIfStart).peer = s.peer ∧
    (s.crankIfStart).acc = s.acc ∧ (s.crankIfStart).gauges = s.gauges ∧ (s.crankIfStart).warn = s.warn ∧
    (s.crankIfStart).service = s.service ∧ (s.crankIfStart).tally = s.tally ∧ (s.crankIfStart).pending = s.pending := by
  unfold State.crankIfStart
  try dsimp only
  (repeat' split) <;> simp

@[simp] theorem State.activeEntry_frame (s : State) :
    (s.activeEntry).pins = s.pins ∧ (s.activeEntry).mem = s.mem ∧ (s.activeEntry).cal = s.cal ∧
    (s.activeEntry).line = s.line ∧ (s.activeEntry).sig = s.sig ∧ (s.activeEntry).peer = s.peer ∧
    (s.activeEntry).gauges = s.gauges ∧ (s.activeEntry).chime = s.chime ∧ (s.activeEntry).service = s.service ∧
    (s.activeEntry).readout = s.readout ∧ (s.activeEntry).tally = s.tally ∧ (s.activeEntry).pending = s.pending := by
  unfold State.activeEntry
  try dsimp only
  simp

@[simp] theorem State.enterActiveFresh_frame (s : State) :
    (s.enterActiveFresh).pins = s.pins ∧ (s.enterActiveFresh).mem = s.mem ∧ (s.enterActiveFresh).cal = s.cal ∧
    (s.enterActiveFresh).sig = s.sig ∧ (s.enterActiveFresh).gauges = s.gauges ∧
    (s.enterActiveFresh).service = s.service ∧ (s.enterActiveFresh).pending = s.pending := by
  unfold State.enterActiveFresh
  try dsimp only
  simp

@[simp] theorem State.enterActiveStandby_frame (s : State) :
    (s.enterActiveStandby).pins = s.pins ∧ (s.enterActiveStandby).mem = s.mem ∧
    (s.enterActiveStandby).cal = s.cal ∧ (s.enterActiveStandby).line = s.line ∧
    (s.enterActiveStandby).sig = s.sig ∧ (s.enterActiveStandby).peer = s.peer ∧
    (s.enterActiveStandby).gauges = s.gauges ∧ (s.enterActiveStandby).service = s.service ∧
    (s.enterActiveStandby).tally = s.tally ∧ (s.enterActiveStandby).pending = s.pending := by
  unfold State.enterActiveStandby
  try dsimp only
  simp

@[simp] theorem State.enterActiveCrank_frame (s : State) :
    (s.enterActiveCrank).pins = s.pins ∧ (s.enterActiveCrank).mem = s.mem ∧ (s.enterActiveCrank).cal = s.cal ∧
    (s.enterActiveCrank).line = s.line ∧ (s.enterActiveCrank).sig = s.sig ∧ (s.enterActiveCrank).peer = s.peer ∧
    (s.enterActiveCrank).acc = s.acc ∧ (s.enterActiveCrank).trip = s.trip ∧
    (s.enterActiveCrank).gauges = s.gauges ∧ (s.enterActiveCrank).warn = s.warn ∧
    (s.enterActiveCrank).service = s.service ∧ (s.enterActiveCrank).tally = s.tally ∧
    (s.enterActiveCrank).pending = s.pending := by
  unfold State.enterActiveCrank
  try dsimp only
  simp

@[simp] theorem State.standbyEntry_frame (s : State) :
    (s.standbyEntry).pins = s.pins ∧ (s.standbyEntry).mem = s.mem ∧ (s.standbyEntry).cal = s.cal ∧
    (s.standbyEntry).line = s.line ∧ (s.standbyEntry).sig = s.sig ∧ (s.standbyEntry).peer = s.peer ∧
    (s.standbyEntry).acc = s.acc ∧ (s.standbyEntry).gauges = s.gauges ∧ (s.standbyEntry).warn = s.warn ∧
    (s.standbyEntry).chime = s.chime ∧ (s.standbyEntry).service = s.service ∧
    (s.standbyEntry).readout = s.readout ∧ (s.standbyEntry).tally = s.tally ∧ (s.standbyEntry).pending = s.pending := by
  unfold State.standbyEntry
  try dsimp only
  simp

@[simp] theorem State.enterStandbyTone_frame (s : State) :
    (s.enterStandbyTone).pins = s.pins ∧ (s.enterStandbyTone).mem = s.mem ∧ (s.enterStandbyTone).cal = s.cal ∧
    (s.enterStandbyTone).line = s.line ∧ (s.enterStandbyTone).sig = s.sig ∧ (s.enterStandbyTone).peer = s.peer ∧
    (s.enterStandbyTone).acc = s.acc ∧ (s.enterStandbyTone).gauges = s.gauges ∧
    (s.enterStandbyTone).warn = s.warn ∧ (s.enterStandbyTone).service = s.service ∧
    (s.enterStandbyTone).tally = s.tally ∧ (s.enterStandbyTone).pending = s.pending := by
  unfold State.enterStandbyTone
  try dsimp only
  simp

@[simp] theorem State.enterStandbyActive_frame (s : State) :
    (s.enterStandbyActive).pins = s.pins ∧ (s.enterStandbyActive).mem = s.mem ∧
    (s.enterStandbyActive).cal = s.cal ∧ (s.enterStandbyActive).line = s.line ∧
    (s.enterStandbyActive).sig = s.sig ∧ (s.enterStandbyActive).peer = s.peer ∧
    (s.enterStandbyActive).acc = s.acc ∧ (s.enterStandbyActive).gauges = s.gauges ∧
    (s.enterStandbyActive).warn = s.warn ∧ (s.enterStandbyActive).chime = s.chime ∧
    (s.enterStandbyActive).service = s.service ∧ (s.enterStandbyActive).tally = s.tally ∧
    (s.enterStandbyActive).pending = s.pending := by
  unfold State.enterStandbyActive
  try dsimp only
  simp

@[simp] theorem State.enterByRun_frame (s : State) :
    (s.enterByRun).pins = s.pins ∧ (s.enterByRun).mem = s.mem ∧ (s.enterByRun).cal = s.cal ∧
    (s.enterByRun).sig = s.sig ∧ (s.enterByRun).gauges = s.gauges ∧ (s.enterByRun).service = s.service ∧
    (s.enterByRun).pending = s.pending := by
  unfold State.enterByRun
  try dsimp only
  (repeat' split) <;> simp

@[simp] theorem State.beginReturn_frame (s : State) :
    (s.beginReturn).pins = s.pins ∧ (s.beginReturn).mem = s.mem ∧ (s.beginReturn).cal = s.cal ∧
    (s.beginReturn).line = s.line ∧ (s.beginReturn).sig = s.sig ∧ (s.beginReturn).peer = s.peer ∧
    (s.beginReturn).acc = s.acc ∧ (s.beginReturn).trip = s.trip ∧ (s.beginReturn).gauges = s.gauges ∧
    (s.beginReturn).warn = s.warn ∧ (s.beginReturn).chime = s.chime ∧ (s.beginReturn).service = s.service ∧
    (s.beginReturn).readout = s.readout ∧ (s.beginReturn).tally = s.tally ∧ (s.beginReturn).pending = s.pending := by
  unfold State.beginReturn
  try dsimp only
  simp

@[simp] theorem State.enterSleep_frame (s : State) :
    (s.enterSleep).pins = s.pins ∧ (s.enterSleep).mem = s.mem ∧ (s.enterSleep).cal = s.cal ∧
    (s.enterSleep).sig = s.sig ∧ (s.enterSleep).peer = s.peer ∧ (s.enterSleep).acc = s.acc ∧
    (s.enterSleep).trip = s.trip ∧ (s.enterSleep).service = s.service ∧ (s.enterSleep).tally = s.tally ∧
    (s.enterSleep).pending = s.pending := by
  unfold State.enterSleep
  try dsimp only
  simp

@[simp] theorem State.wake_frame (s : State) :
    (s.wake).pins = s.pins ∧ (s.wake).mem = s.mem ∧ (s.wake).cal = s.cal ∧ (s.wake).trip = s.trip ∧
    (s.wake).warn = s.warn ∧ (s.wake).chime = s.chime ∧ (s.wake).service = s.service ∧ (s.wake).tally = s.tally ∧
    (s.wake).pending = s.pending := by
  unfold State.wake
  try dsimp only
  simp

@[simp] theorem State.readStraps_frame (s : State) :
    (s.readStraps).pins = s.pins ∧ (s.readStraps).mem = s.mem ∧ (s.readStraps).cal = s.cal ∧
    (s.readStraps).line = s.line ∧ (s.readStraps).sig = s.sig ∧ (s.readStraps).acc = s.acc ∧
    (s.readStraps).trip = s.trip ∧ (s.readStraps).gauges = s.gauges ∧ (s.readStraps).warn = s.warn ∧
    (s.readStraps).chime = s.chime ∧ (s.readStraps).service = s.service ∧ (s.readStraps).readout = s.readout ∧
    (s.readStraps).tally = s.tally ∧ (s.readStraps).pending = s.pending := by
  unfold State.readStraps
  try dsimp only
  simp

/-- What reading the straps at the end of LOAD can do: nothing, or the one reading of a reset (R171). -/
theorem State.strapsRead_cases (s : State) :
    (s.peer.generator ≠ none ∧ s.strapsRead = s) ∨ (s.peer.generator = none ∧ s.strapsRead = s.readStraps) := by
  unfold State.strapsRead
  split
  · exact Or.inr ⟨‹_›, rfl⟩
  · exact Or.inl ⟨‹_›, rfl⟩

@[simp] theorem State.strapsRead_frame (s : State) :
    (s.strapsRead).pins = s.pins ∧ (s.strapsRead).mem = s.mem ∧ (s.strapsRead).cal = s.cal ∧
    (s.strapsRead).line = s.line ∧ (s.strapsRead).sig = s.sig ∧ (s.strapsRead).acc = s.acc ∧
    (s.strapsRead).trip = s.trip ∧ (s.strapsRead).gauges = s.gauges ∧ (s.strapsRead).warn = s.warn ∧
    (s.strapsRead).chime = s.chime ∧ (s.strapsRead).service = s.service ∧ (s.strapsRead).readout = s.readout ∧
    (s.strapsRead).tally = s.tally ∧ (s.strapsRead).pending = s.pending ∧ (s.strapsRead).idled = s.idled := by
  obtain ⟨-, h⟩ | ⟨-, h⟩ := s.strapsRead_cases <;> rw [h] <;> simp [State.readStraps]

@[simp] theorem Line.breakOff_frame (l : Line) :
    (l.breakOff).tx = l.tx ∧ (l.breakOff).inbound = l.inbound ∧ (l.breakOff).holding = l.holding ∧
    (l.breakOff).halt = l.halt ∧ (l.breakOff).resume = l.resume ∧ (l.breakOff).pause = l.pause ∧
    (l.breakOff).fault = l.fault ∧ (l.breakOff).idle = l.idle := by
  unfold Line.breakOff Line.slotsAhead
  split <;> simp

/-- The difference of two timebase counts is the age, whatever wraps in between, for ages below 2^32 ms (R174). -/
theorem timebaseCount_age (now arrival : Nat) (h : arrival ≤ now) (h' : now - arrival < 2 ^ 32) :
    (timebaseCount now - timebaseCount arrival).toNat = ageOf now arrival := by
  simp only [timebaseCount, ageOf, BitVec.toNat_sub, BitVec.toNat_ofNat]
  omega

@[simp] theorem State.holdSlot_frame (s : State) (o : Bool) :
    (s.holdSlot o).pins = s.pins ∧ (s.holdSlot o).mem = s.mem ∧ (s.holdSlot o).cal = s.cal ∧
    (s.holdSlot o).pw = s.pw ∧ (s.holdSlot o).sig = s.sig ∧ (s.holdSlot o).peer = s.peer ∧
    (s.holdSlot o).acc = s.acc ∧ (s.holdSlot o).trip = s.trip ∧ (s.holdSlot o).gauges = s.gauges ∧
    (s.holdSlot o).warn = s.warn ∧ (s.holdSlot o).chime = s.chime ∧ (s.holdSlot o).service = s.service ∧
    (s.holdSlot o).readout = s.readout ∧ (s.holdSlot o).pending = s.pending := by
  unfold State.holdSlot
  try dsimp only
  (repeat' split) <;> simp

@[simp] theorem State.checkError_frame (s : State) :
    (s.checkError).pins = s.pins ∧ (s.checkError).mem = s.mem ∧ (s.checkError).cal = s.cal ∧
    (s.checkError).pw = s.pw ∧ (s.checkError).line = s.line ∧ (s.checkError).sig = s.sig ∧
    (s.checkError).peer = s.peer ∧ (s.checkError).acc = s.acc ∧ (s.checkError).trip = s.trip ∧
    (s.checkError).gauges = s.gauges ∧ (s.checkError).warn = s.warn ∧ (s.checkError).chime = s.chime ∧
    (s.checkError).service = s.service ∧ (s.checkError).readout = s.readout ∧ (s.checkError).pending = s.pending := by
  unfold State.checkError
  try dsimp only
  simp

@[simp] theorem State.storeFrame_frame (s : State) (f : Frame) :
    (s.storeFrame f).pins = s.pins ∧ (s.storeFrame f).mem = s.mem ∧ (s.storeFrame f).cal = s.cal ∧
    (s.storeFrame f).pw = s.pw ∧ (s.storeFrame f).sig = s.sig ∧ (s.storeFrame f).peer = s.peer ∧
    (s.storeFrame f).acc = s.acc ∧ (s.storeFrame f).trip = s.trip ∧ (s.storeFrame f).gauges = s.gauges ∧
    (s.storeFrame f).warn = s.warn ∧ (s.storeFrame f).chime = s.chime ∧ (s.storeFrame f).service = s.service ∧
    (s.storeFrame f).readout = s.readout ∧ (s.storeFrame f).pending = s.pending := by
  unfold State.storeFrame
  try dsimp only
  (repeat' split) <;> simp

@[simp] theorem State.rxReady_frame (s : State) :
    (s.rxReady).pins = s.pins ∧ (s.rxReady).mem = s.mem ∧ (s.rxReady).cal = s.cal ∧ (s.rxReady).pw = s.pw ∧
    (s.rxReady).sig = s.sig ∧ (s.rxReady).peer = s.peer ∧ (s.rxReady).acc = s.acc ∧ (s.rxReady).trip = s.trip ∧
    (s.rxReady).gauges = s.gauges ∧ (s.rxReady).warn = s.warn ∧ (s.rxReady).chime = s.chime ∧
    (s.rxReady).service = s.service ∧ (s.rxReady).readout = s.readout ∧ (s.rxReady).tally = s.tally ∧
    (s.rxReady).pending = s.pending := by
  unfold State.rxReady
  try dsimp only
  simp

@[simp] theorem State.receiveBits_frame (s : State) (b : List Bool) (o : Bool) :
    (s.receiveBits b o).pins = s.pins ∧ (s.receiveBits b o).mem = s.mem ∧ (s.receiveBits b o).cal = s.cal ∧
    (s.receiveBits b o).pw = s.pw ∧ (s.receiveBits b o).sig = s.sig ∧ (s.receiveBits b o).peer = s.peer ∧
    (s.receiveBits b o).acc = s.acc ∧ (s.receiveBits b o).trip = s.trip ∧ (s.receiveBits b o).gauges = s.gauges ∧
    (s.receiveBits b o).warn = s.warn ∧ (s.receiveBits b o).chime = s.chime ∧
    (s.receiveBits b o).service = s.service ∧ (s.receiveBits b o).readout = s.readout ∧
    (s.receiveBits b o).pending = s.pending := by
  unfold State.receiveBits
  try dsimp only
  (repeat' split) <;> simp

@[simp] theorem State.keyClick_frame (s : State) :
    (s.keyClick).pins = s.pins ∧ (s.keyClick).mem = s.mem ∧ (s.keyClick).cal = s.cal ∧ (s.keyClick).pw = s.pw ∧
    (s.keyClick).line = s.line ∧ (s.keyClick).sig = s.sig ∧ (s.keyClick).peer = s.peer ∧ (s.keyClick).acc = s.acc ∧
    (s.keyClick).trip = s.trip ∧ (s.keyClick).gauges = s.gauges ∧ (s.keyClick).warn = s.warn ∧
    (s.keyClick).service = s.service ∧ (s.keyClick).readout = s.readout ∧ (s.keyClick).tally = s.tally ∧
    (s.keyClick).pending = s.pending := by
  unfold State.keyClick
  try dsimp only
  simp

@[simp] theorem State.refusalClick_frame (s : State) :
    (s.refusalClick).pins = s.pins ∧ (s.refusalClick).mem = s.mem ∧ (s.refusalClick).cal = s.cal ∧
    (s.refusalClick).pw = s.pw ∧ (s.refusalClick).line = s.line ∧ (s.refusalClick).sig = s.sig ∧
    (s.refusalClick).peer = s.peer ∧ (s.refusalClick).acc = s.acc ∧ (s.refusalClick).trip = s.trip ∧
    (s.refusalClick).gauges = s.gauges ∧ (s.refusalClick).warn = s.warn ∧ (s.refusalClick).service = s.service ∧
    (s.refusalClick).readout = s.readout ∧ (s.refusalClick).tally = s.tally ∧ (s.refusalClick).pending = s.pending := by
  unfold State.refusalClick
  try dsimp only
  simp

@[simp] theorem State.acceptKey_frame (s : State) :
    (s.acceptKey).pins = s.pins ∧ (s.acceptKey).mem = s.mem ∧ (s.acceptKey).cal = s.cal ∧ (s.acceptKey).pw = s.pw ∧
    (s.acceptKey).line = s.line ∧ (s.acceptKey).sig = s.sig ∧ (s.acceptKey).peer = s.peer ∧
    (s.acceptKey).acc = s.acc ∧ (s.acceptKey).trip = s.trip ∧ (s.acceptKey).gauges = s.gauges ∧
    (s.acceptKey).warn = s.warn ∧ (s.acceptKey).service = s.service ∧ (s.acceptKey).tally = s.tally ∧
    (s.acceptKey).pending = s.pending := by
  unfold State.acceptKey
  try dsimp only
  simp

end Sys2Proof.Machine
end

