-- ==== Sys2Proof/Laws/Queues.lean ====
section
/-! SUPPORT. The queues and tallies: what a request to send, a request to write, a chime offer and a removal can do. -/

namespace Sys2Proof.Machine

/-! ## Tallies and clamps -/

theorem bump16_le (n : Nat) : bump16 n ≤ 65535 := Nat.min_le_right _ _

theorem bump8_le (n : Nat) : bump8 n ≤ 255 := Nat.min_le_right _ _

theorem clampNat_bounds {lo hi : Nat} (h : lo ≤ hi) (n : Nat) : lo ≤ clampNat lo hi n ∧ clampNat lo hi n ≤ hi := by
  unfold clampNat; omega

theorem clampInt_bounds {lo hi : Int} (h : lo ≤ hi) (n : Int) : lo ≤ clampInt lo hi n ∧ clampInt lo hi n ≤ hi := by
  unfold clampInt; omega

/-! ## Lists -/

@[simp] theorem updateAt_length {α : Type} (l : List α) (n : Nat) (f : α → α) : (updateAt l n f).length = l.length := by
  induction l generalizing n with
  | nil => rfl
  | cons x rest ih => cases n <;> simp [updateAt, ih]

/-- A list changed at one place, read anywhere. -/
theorem updateAt_getElem? {α : Type} (l : List α) (n k : Nat) (f : α → α) :
    (updateAt l n f)[k]? = if k = n then (l[k]?).map f else l[k]? := by
  induction l generalizing n k with
  | nil => simp [updateAt]
  | cons x rest ih =>
    cases n with
    | zero => cases k <;> simp [updateAt]
    | succ n => cases k <;> simp [updateAt, ih]

/-- A member of a changed list is an old member or the image of one. -/
theorem mem_updateAt {α : Type} {l : List α} {n : Nat} {f : α → α} {x : α} (h : x ∈ updateAt l n f) :
    x ∈ l ∨ ∃ y ∈ l, x = f y := by
  induction l generalizing n with
  | nil => simp [updateAt] at h
  | cons y rest ih =>
    cases n with
    | zero =>
      simp only [updateAt, List.mem_cons] at h
      rcases h with h | h
      · exact .inr ⟨y, by simp, h⟩
      · exact .inl (by simp [h])
    | succ n =>
      simp only [updateAt, List.mem_cons] at h
      rcases h with h | h
      · exact .inl (by simp [h])
      · rcases ih h with h | ⟨z, hz, hx⟩
        · exact .inl (by simp [h])
        · exact .inr ⟨z, by simp [hz], hx⟩

/-! ## The transmit queue -/

@[simp] theorem txPlace_length (e : TxEntry) (q : List TxEntry) : (txPlace e q).length = q.length + 1 := by
  induction q with
  | nil => rfl
  | cons x rest ih => unfold txPlace; split <;> simp [ih]

@[simp] theorem mem_txPlace (e x : TxEntry) (q : List TxEntry) : x ∈ txPlace e q ↔ x = e ∨ x ∈ q := by
  induction q with
  | nil => simp [txPlace]
  | cons y rest ih =>
    unfold txPlace
    split
    · simp
    · simp only [List.mem_cons, ih]; tauto

/-- A request to send does one of four things: it replaces the data of its key; it inserts a new entry; at a full queue it
displaces the worst waiting entry, or is refused (R153, R154). -/
theorem txRequest_cases (q : List TxEntry) (k : BitVec 5) (sub : Option Nat) (d : List Byte) :
    (q.any (fun e => e.hasKey k sub) = true ∧
        txRequest q k sub d = { queue := txReplace q k sub d, departed := none, dropped := false }) ∨
      (q.any (fun e => e.hasKey k sub) = false ∧ q.length < 8 ∧
        txRequest q k sub d = { queue := txPlace (TxEntry.new k sub d) q, departed := none, dropped := false }) ∨
      (q.any (fun e => e.hasKey k sub) = false ∧ 8 ≤ q.length ∧
        ∃ w, txWorst q = some w ∧ priorityOf k < priorityOf w.kind ∧
          txRequest q k sub d = { queue := txPlace (TxEntry.new k sub d) (txWithout q w.kind w.subject),
                                  departed := some w.kind, dropped := true }) ∨
      (q.any (fun e => e.hasKey k sub) = false ∧ 8 ≤ q.length ∧
        txRequest q k sub d = { queue := q, departed := some k, dropped := true }) := by
  unfold txRequest
  split
  · rename_i h; exact .inl ⟨h, rfl⟩
  · rename_i h
    have h' : q.any (fun e => e.hasKey k sub) = false := by simpa using h
    split
    · rename_i hl; exact .inr (.inl ⟨h', hl, rfl⟩)
    · rename_i hl
      have hl' : 8 ≤ q.length := by simpa [txCapacity] using hl
      split
      · exact .inr (.inr (.inr ⟨h', hl', rfl⟩))
      · rename_i w hw
        split
        · rename_i hp; exact .inr (.inr (.inl ⟨h', hl', w, hw, hp, rfl⟩))
        · exact .inr (.inr (.inr ⟨h', hl', rfl⟩))

/-! ## The write queue -/

/-- A request to write replaces the data of its key, or becomes the newest entry (R179). -/
theorem writeRequest_cases (q : List WriteEntry) (k : WriteKey) (d : List Word) :
    (q.any (fun e => e.key == k) = true ∧
        writeRequest q k d = q.map (fun e => if e.key == k then { e with data := d } else e)) ∨
      (q.any (fun e => e.key == k) = false ∧ writeRequest q k d = q ++ [{ key := k, data := d }]) := by
  unfold writeRequest
  split
  · rename_i h; exact .inl ⟨h, rfl⟩
  · rename_i h; exact .inr ⟨by simpa using h, rfl⟩

/-! ## The chime queue -/

@[simp] theorem chimeInsert_length (e : ChimeEntry) (q : List ChimeEntry) : (chimeInsert e q).length = q.length + 1 := by
  induction q with
  | nil => rfl
  | cons x rest ih => unfold chimeInsert; split <;> simp [ih]

@[simp] theorem mem_chimeInsert (e x : ChimeEntry) (q : List ChimeEntry) : x ∈ chimeInsert e q ↔ x = e ∨ x ∈ q := by
  induction q with
  | nil => simp [chimeInsert]
  | cons y rest ih =>
    unfold chimeInsert
    split
    · simp
    · simp only [List.mem_cons, ih]; tauto

/-- Passing to the head leaves the queue as it is (R108). -/
@[simp] theorem passToHead_queue (c : Chimes) (now : Nat) : (c.passToHead now).queue = c.queue := by
  unfold Chimes.passToHead; (repeat' split) <;> simp_all

/-- A removal takes the warning's entry out of the queue and nothing else (R104). -/
theorem remove_queue (c : Chimes) (now w : Nat) :
    (c.remove now w).queue = chimeWithout c.queue w := by
  unfold Chimes.remove
  split
  · dsimp only; split <;> simp
  · rename_i h
    have h' : ∀ e ∈ c.queue, (e.warning != w) = true := by
      intro e he
      simp only [Chimes.holds, List.any_eq_true, not_exists, not_and] at h
      simpa using h e he
    unfold chimeWithout
    rw [List.filter_eq_self.mpr h']

/-- An offer leaves a queue that holds the warning already as it is; a refused one leaves it too (R103, R105). -/
theorem offer_held (c : Chimes) (now w : Nat) (k : Class) (h : c.holds w = true) :
    c.offer now w k = { chime := c, reports := [], displaced := false } := by
  unfold Chimes.offer; simp [h]

/-! ## Answers -/

/-- A command that takes a frame either changes nothing, or removes the oldest frame and applies it whole (R1, R2). -/
theorem takeFrame_cases (acc : Frame → Bool) (app : State → Stored → State) (s : State) :
    takeFrame acc app s = .next s ∨
      ∃ f rest, dispatcherRuns s.pw.state = true ∧ s.line.inbound = f :: rest ∧ acc f.frame = true ∧
        takeFrame acc app s = .next (app (s.setLine (s.line.take rest)) f).finish := by
  unfold takeFrame
  split
  · rename_i h
    split
    · exact .inl rfl
    · rename_i f rest hq
      split
      · rename_i ha; exact .inr ⟨f, rest, h, hq, ha, rfl⟩
      · exact .inl rfl
  · exact .inl rfl

/-- A frame of the command's kind is taken and applied (R2). -/
theorem takeFrame_taken {acc : Frame → Bool} {app : State → Stored → State} {s : State} {f : Stored} {rest : List Stored}
    (h : dispatcherRuns s.pw.state = true) (hq : s.line.inbound = f :: rest) (ha : acc f.frame = true) :
    takeFrame acc app s = .next (app (s.setLine (s.line.take rest)) f).finish := by
  unfold takeFrame; simp [h, hq, ha, done]

/-- A KEY frame is ignored, or recorded and treated by its key (R138). -/
theorem keyFrame_cases (s : State) (f : Stored) (key : State → State) :
    s.keyFrame f key = s ∨
      s.keyFrame f key = key (s.setReadout { s.readout with lastKey := some (keyRecord f) }) := by
  unfold State.keyFrame
  (repeat' split) <;> simp

/-- A TEST frame is ignored, or has its effect (R175). -/
theorem testFrame_cases (s : State) (f : Frame) (e : State → State) : s.testFrame f e = s ∨ s.testFrame f e = e s := by
  unfold State.testFrame; split <;> simp

/-- What follows from every command at once changes the lamp states, the keep-alive timer and the return stage alone. -/
theorem finish_eq (s : State) :
    s.finish = (s.setWarn { s.warn with lamps := (List.range 12).map (lampStateOf s.warn) }).setPw
      (s.pw.settle (keepAwake (s.setWarn { s.warn with lamps := (List.range 12).map (lampStateOf s.warn) }))) := rfl

end Sys2Proof.Machine
end

