-- ==== Sys2Proof/Laws/Timebase.lean ====
section
/-! SUPPORT. What the timebase's shared operations can do: the words that LOAD has read in 250 ms. -/

namespace Sys2Proof.Machine

/-- No more of the first words are unanswered than there are. -/
theorem unanswered_le (silent : List Nat) (words : Nat) : unanswered silent words ≤ words := by
  unfold unanswered
  exact Nat.le_trans List.countP_le_length (Nat.le_of_eq List.length_range)

/-- By 250 ms at least 416 words are read, none beyond those asked for, and no more than their times allow (R171). -/
theorem wordsByLimit_spec (silent : List Nat) (more : Nat) :
    416 ≤ wordsByLimit silent more ∧ wordsByLimit silent more ≤ 416 + more ∧
      readingPossible silent (wordsByLimit silent more) 250 = true := by
  induction more with
  | zero =>
    have := unanswered_le silent 416
    exact ⟨Nat.le_refl 416, Nat.le_refl 416, decide_eq_true (by show 2 * 416 + 4 * unanswered silent 416 ≤ 10 * 250; omega)⟩
  | succ n ih =>
    unfold wordsByLimit
    split
    · exact ⟨by omega, by omega, by assumption⟩
    · exact ⟨ih.1, by omega, ih.2.2⟩

/-- Every number of words that their times allow is the number read for some value of the free number (R171). -/
theorem wordsByLimit_reaches (silent : List Nat) (n : Nat) (h : readingPossible silent (417 + n) 250 = true) :
    wordsByLimit silent (n + 1) = 417 + n := by
  simp [wordsByLimit, h]

end Sys2Proof.Machine
end

