-- ==== Sys2Proof/Tests/Slice0.lean ====
section
/-! SUPPORT. The model's own tests: ill-formed commands are refused by WellFormed, each command on a small state with the
result the spec's worked cases or its rules give, and for every statement with hypotheses a state that meets them. -/

namespace Sys2Proof.Tests

open Sys2Proof Sys2Proof.Machine

/-! ## WellFormed: an ill-formed term for each check, and the longest well-formed one beside it -/

theorem test_wellFormed_powerOnReset_cut : (Instr.powerOnReset 0 false 26).wellFormed = false := by decide
theorem test_wellFormed_powerOnReset : (Instr.powerOnReset 15 true 25).wellFormed = true := by decide
theorem test_wellFormed_resetPin_cut : (Instr.resetPin 0 false 26).wellFormed = false := by decide
theorem test_wellFormed_resetPin : (Instr.resetPin 15 true 25).wellFormed = true := by decide
theorem test_wellFormed_loadEnd_words : (Instr.loadEnd 447 []).wellFormed = false := by decide
theorem test_wellFormed_loadEnd_silent : (Instr.loadEnd 446 [446]).wellFormed = false := by decide
theorem test_wellFormed_loadEnd : (Instr.loadEnd 446 [0, 445]).wellFormed = true := by decide
theorem test_wellFormed_frameReceive_bits : (Instr.frameReceive (List.replicate 91 true) false).wellFormed = false := by
  decide
theorem test_wellFormed_frameReceive : (Instr.frameReceive (List.replicate 90 true) true).wellFormed = true := by decide
theorem test_wellFormed_frameBegin_bits : (Instr.frameBegin (List.replicate 91 true)).wellFormed = false := by decide
theorem test_wellFormed_frameBegin : (Instr.frameBegin (List.replicate 90 true)).wellFormed = true := by decide

/-! ## Small states -/

/-- What a command leaves, read through `f`; none where it does not answer a next state. -/
def after {α : Type} (c : Instr) (s : State) (f : State → α) : Option α :=
  match exec c s with
  | .next t => some (f t)
  | _ => none

/-- The part in a power state at a time, calibrated with the built-in values, every queue empty. -/
def part (p : Power) (t : Nat) : State :=
  { State.reset with
    pw := { State.reset.pw with state := p, time := t }
    gauges := builtInChannels.map (fun c => { Channel.reset with cal := c })
    warn := { State.reset.warn with sense := builtInSenses, table := builtInPositions }
    service := { State.reset.service with items := builtInServices.map ServiceItem.calibrated }
    chime := { State.reset.chime with mode := if p = .standby ∨ p = .active then .idle else .silent } }

/-- The part with one frame in its inbound queue, arrived now. -/
def got (s : State) (kind : BitVec 5) (source : StationNo) (data : List Byte) : State :=
  { s with line := { s.line with
      inbound := [{ frame := { kind := kind, source := source, data := data }, arrival := s.pw.time }] } }

/-- The part with a station in SYNC whose last STATUS came at a time. -/
def heard (s : State) (n : StationNo) (t : Nat) : State :=
  { s with peer := { s.peer with
      stations := s.peer.stations.set n.toNat
        { Station.reset with state := .sync, last := some 30#7, lastTime := t, seen := true } } }

/-- The part with a signal entry FRESH from a station since a time. -/
def bound (s : State) (k : SignalKind) (n : StationNo) (t : Nat) : State :=
  { s with sig := s.sig.setHdr k { fresh := .fresh, bound := some n, arrival := t, rebound := false } }

/-- The part with one warning entry changed. -/
def entry (s : State) (n : Nat) (f : Warning → Warning) : State :=
  match s.warn.entry n with
  | some e => { s with warn := s.warn.setEntry n (f e) }
  | none => s

/-- The part with a clock. -/
def clockAt (s : State) (h m sec day : Nat) : State :=
  { s with readout := { s.readout with hour := h, minute := m, second := sec, day := day, unset := false } }

/-- A transmit entry that waits. -/
def waiting (kind : BitVec 5) (subject : Option Nat) (data : List Byte) : TxEntry :=
  { kind := kind, subject := subject, data := data, attempts := 0, sending := false, replacement := none }

/-- The part with a transmit queue, on an idle line. -/
def queued (s : State) (tx : List TxEntry) : State := { s with line := { s.line with tx := tx, idle := true } }

/-- The part with a chime queue whose head plays, at the first step of its pattern, which ends at a time. -/
def playing (s : State) (q : List ChimeEntry) (index ends : Nat) : State :=
  { s with chime := { queue := q, mode := .pattern, playing := q.head?.map ChimeEntry.warning,
                      step := some { index := index, ends := ends }, click := none } }

/-- The part in SLEEP. -/
def asleep : State :=
  { part .sleep 20000 with pw := { (part .sleep 20000).pw with nextGauge := none, nextTrip := none, nextHeart := none } }

/-- A serial memory with valid areas: every word not listed FFFFH, so each check word is the number of data words less 1
(R177); slots 0 to 7 as 2.5.5 lists them. -/
def saved : Memory :=
  memWriteAll (memWriteAll (memWriteAll (memWriteAll (memWriteAll [] 383 [382#16])
    384 ([45060, 45070, 45080, 45090, 45010, 45020, 45030, 45040].flatMap slotWords)) 424 [23#16])
    437 [6399#16, 0xFFFF#16, 0xFFFF#16, 0xFFFF#16, 0xE70F#16]) 445 [2#16]

/-! ## Resets and LOAD -/

/-- 2.5.5: a write of 45,100 to slot 4 is cut after its first word; the slot is then not valid. -/
theorem test_powerOnReset_cut :
    after (.powerOnReset 5 false 1)
      { part .active 5000 with
        mem := saved
        pw := { (part .active 5000).pw with
          writing := some { key := .odometer, base := 392, data := slotWords 45100, target := 4 } } }
      (fun t => (t.pw.state, slotOf (loadImage t.mem 446 []) 3, slotOf (loadImage t.mem 446 []) 4)) =
    some (.load, some 45090, none) := by decide

/-- R159: station 5 has the seed 6. -/
theorem test_resetPin_straps :
    after (.resetPin 5 true 0) (part .sleep 5000) (fun t => (t.pw.station, t.pw.role, t.peer.generator, t.pw.time)) =
    some (5, .rear, some 6, 0) := by decide

/-- 2.5.5: the odometer becomes 45,090 and the current slot index 3. -/
theorem test_loadEnd_slots :
    after (.loadEnd 446 []) { State.reset with mem := saved } (fun t => (t.acc.odo, t.acc.slot, t.pw.calFault, t.pw.state)) =
    some (45090, some 3, false, .standby) := by decide +kernel

/-- R26, R27, R171: a new memory gives an unknown odometer and CAL FAULT. -/
theorem test_loadEnd_new_memory :
    after (.loadEnd 445 []) State.reset (fun t => (t.acc.odoUnknown, t.pw.calFault, t.pw.time, t.cal.kDist)) =
    some (true, true, 250, 5000) := by decide +kernel

/-- R159, R171: a LOAD that no reset command began reads the straps as well: station 5 at REAR, seed 6. -/
theorem test_loadEnd_straps :
    after (.loadEnd 446 []) { State.reset with pins := { State.reset.pins with straps := 5, roleHigh := true } }
      (fun t => (t.pw.station, t.pw.role, t.peer.generator)) = some (5, .rear, some 6) := by decide +kernel

/-- R171: 403 words of 0.6 ms leave no time for all 446 in 250 ms, 402 do; and 416 are read whatever is answered. -/
theorem test_wordsByLimit :
    wordsByLimit (List.range 403) 30 = 444 ∧ wordsByLimit (List.range 402) 30 = 446 ∧ wordsByLimit [] 3 = 419 ∧
      wordsByLimit (List.range 446) 30 = 416 := by decide +kernel

theorem test_restartReset :
    after .restartReset { part .active 5000 with pw := { (part .active 5000).pw with restartPending := true } }
      (fun t => (t.pw.state, t.pw.time, t.pw.restartPending)) = some (.load, 0, false) := by decide

/-! ## Power -/

/-- R170, R41, R100: RUN is on at the end of STABILISE. -/
theorem test_stabiliseEnd :
    after .stabiliseEnd
      { part .stabilise 20000 with
        pins := { State.reset.pins with run := true }
        pw := { (part .stabilise 20000).pw with stabiliseEnds := 20020 } }
      (fun t => (t.pw.state, t.pw.time, t.trip.fastFill, t.warn.lampTest, t.line.tx.map TxEntry.kind)) =
    some (.active, 20020, 30, some 23020, [8]) := by decide

theorem test_runOn :
    after .runOn (part .standby 5000) (fun t => (t.pw.state, t.trip.fastFill, t.warn.lampTest)) =
    some (.active, 30, some 8000) := by decide

/-- 11.3.1: RUN goes off; the ODOMETER write waits, so the timer is stopped. -/
theorem test_runOff :
    after .runOff { part .active 5000 with pins := { State.reset.pins with run := true } }
      (fun t => (t.pw.state, t.pw.queue.map WriteEntry.key, t.pw.keepAlive)) =
    some (.standby, [.odometer], none) := by decide

/-- 6.6.4: START stops pattern A and keeps the queue. -/
theorem test_startOn :
    after .startOn (playing (part .active 700) [⟨2, .a⟩, ⟨5, .b⟩] 1 1000)
      (fun t => (t.pw.state, t.chime.mode, t.chime.queue)) = some (.crank, .silent, [⟨2, .a⟩, ⟨5, .b⟩]) := by decide

/-- 6.6.4: after CRANK the head's pattern B plays from its first step. -/
theorem test_startOff :
    after .startOff
      { part .crank 2600 with
        pins := { State.reset.pins with run := true, start := true }
        chime := { (part .crank 0).chime with queue := [⟨5, .b⟩] } }
      (fun t => (t.pw.state, t.chime.mode, t.chime.playing, t.chime.step)) =
    some (.active, .pattern, some 5, some { index := 0, ends := 2750 }) := by decide

/-- R15, R170: the CHASSIS entry becomes LOST and STABILISE lasts 20 ms. -/
theorem test_lineWakeEdge :
    after .lineWakeEdge (bound asleep .chassis 5 19000)
      (fun t => (t.pw.state, t.pw.stabiliseEnds, t.sig.chassisHdr.fresh, t.sig.bodyHdr.fresh)) =
    some (.stabilise, 20020, .lost, .none) := by decide

/-- 11.3.1: at the expiry TRIP, COUNTERS and ODOMETER writes are queued. -/
theorem test_keepAliveExpiry :
    after .keepAliveExpiry { part .standby 94000 with pw := { (part .standby 94000).pw with keepAlive := some 59 } }
      (fun t => (t.pw.returning, t.pw.keepAlive, t.pw.queue.map WriteEntry.key)) =
    some (true, none, [.trip, .counters, .odometer]) := by decide

/-- The part in its return stage with every pointer back at 0. -/
def returned : State :=
  { part .standby 94600 with
    pw := { (part .standby 94600).pw with returning := true }
    gauges := (part .standby 0).gauges.map (fun c => { c with state := .returning }) }

theorem test_entryToSleep :
    after .entryToSleep returned (fun t => (t.pw.state, t.gauges.map Channel.state, t.pw.nextTrip, t.chime.mode)) =
    some (.sleep, List.replicate 6 .parked, none, .silent) := by decide

/-! ## Gauges -/

/-- The tachometer at an angle, due for an update, with an engine speed from a FRESH entry. -/
def tacho (s : State) (angle rpm : Nat) : State :=
  let s := bound s .engine 3 0
  { s with
    gauges := s.gauges.set 1 { cal := builtInChannels.getD 1 Channel.reset.cal, angle := angle, state := .tracking,
                               tick := 0, coilA := ⟨0, true⟩, coilB := ⟨0, true⟩ }
    sig := { s.sig with engine := { s.sig.engine with speed := rpm } } }

/-- R64, R63: the two channels with divider 1 make their update at every tick and stand at 0, the others count; in CRANK none
does (R73). -/
theorem test_gaugeTick :
    after .gaugeTick (part .active 20) (fun t => (t.gauges.map Channel.tick, t.pw.nextGauge)) =
    some ([0, 0, 1, 1, 1, 1], some 40) := by decide

/-- 4.7.4: the tick that follows the end of CRANK moves channel 1 from 250 by 24 toward 100, and none is owed from before. -/
theorem test_gaugeTick_update :
    after .gaugeTick (tacho (part .active 40) 250 800)
      (fun t => t.gauges[1]?.map (fun c => (c.angle, c.state, c.tick))) = some (some (226, .tracking, 0)) := by decide
theorem test_gaugeTick_crank :
    after .gaugeTick (part .crank 20) (fun t => (t.gauges.map Channel.tick, t.pw.nextGauge)) =
    some ([0, 0, 0, 0, 0, 0], some 40) := by decide

/-- 4.7.4: after CRANK channel 1 moves from 250 toward 100 by 24, to 226. -/
theorem test_channelUpdate_slew :
    after (.channelUpdate 1) (tacho (part .active 40) 250 800)
      (fun t => t.gauges[1]?.map (fun c => (c.angle, c.state, c.tick))) = some (some (226, .tracking, 0)) := by decide

/-- 4.6.3: at 400 quarter-degrees coil A has 251 positive and coil B 44 negative. -/
theorem test_channelUpdate_coils :
    after (.channelUpdate 1) (tacho (part .active 40) 400 3200)
      (fun t => t.gauges[1]?.map (fun c => (c.angle, c.coilA, c.coilB))) =
    some (some (400, ⟨251, true⟩, ⟨44, false⟩)) := by decide

/-! ## Ticks and their shares -/

/-- R24: slots of 7, 7, 6, 8 and 7 pulses with K_dist 4,971 give 506. -/
theorem test_tripTick_speed :
    after (.tripTick 0xFFFF#16)
      { part .active 100 with
        cal := { State.reset.cal with kDist := 4971 }
        acc := { State.reset.acc with fillDist := 7, ring := [⟨7, 0⟩, ⟨6, 0⟩, ⟨8, 0⟩, ⟨7, 0⟩] } }
      (fun t => (t.acc.speed, t.acc.fillDist, t.pw.nextTrip)) = some (506, 0, some 200) := by decide +kernel

/-- 5.8.1: the evaluation of 12,000, the count reaches 0: FRONT's entry 2 becomes ACTIVE and its chime plays. -/
theorem test_tripTick_evaluation :
    after (.tripTick 0xFFFF#16)
      (entry
        { bound (part .active 12000) .engine 3 11990 with
          sig := { (bound (part .active 12000) .engine 3 11990).sig with
            engine := { State.reset.sig.engine with coolant := 118, oil := 400 } }
          pw := { (part .active 12000).pw with nextTrip := some 12000 } }
        2 (fun e => { e with state := .pending, count := 1, last := some true }))
      (fun t => ((t.warn.entry 2).map Warning.state, t.warn.coolantHot, t.chime.queue, t.warn.lamps.getD 1 .off)) =
    some (some .active, true, [⟨2, .a⟩], .flash) := by decide +kernel

/-- 1.3.1: the CHASSIS entry of 10,120 is STALE at the tick of 10,700 and LOST at that of 12,700. -/
def chassisAt10120 : State :=
  { bound (heard (part .active 10600) 5 10600) .chassis 5 10120 with
    pw := { (part .active 10600).pw with nextTrip := some 10700 } }
theorem test_signalStale :
    after (.signalStale .chassis) chassisAt10120 (fun t => (t.sig.chassisHdr.fresh, t.pw.time)) =
    some (.stale, 10700) := by decide
theorem test_signalLost :
    after (.signalLost .chassis) chassisAt10120 (fun t => (t.sig.chassisHdr.fresh, t.pw.time)) =
    some (.lost, 12700) := by decide

/-- 10.7: the last STATUS of station 5 arrived at 52,300; at 53,300 it is ABSENT and its entries are LOST. -/
theorem test_stationAbsent :
    after (.stationAbsent 5)
      { bound (heard (part .active 52400) 5 52300) .chassis 5 52350 with
        pw := { (part .active 52400).pw with nextTrip := some 52500 } }
      (fun t => ((t.peer.station 5).state, (t.peer.station 5).tallies.absents, t.sig.chassisHdr.fresh, t.pw.time)) =
    some (.absent, 1, .lost, 53300) := by decide

theorem test_fastFillEnd :
    after .fastFillEnd { part .active 3000 with trip := { State.reset.trip with fastFill := 1 } } (fun t => t.trip.fastFill) =
    some 0 := by decide

/-- 5.8.1 at REAR: the mark is live, so the entry rises to ACKED, without a chime. -/
def hotPending (mark : Option Nat) : State :=
  entry
    { bound (part .active 12540) .engine 3 12500 with
      warn := { (part .active 0).warn with coolantHot := true }
      sig := { (bound (part .active 12540) .engine 3 12500).sig with
        engine := { State.reset.sig.engine with coolant := 118 } } }
    2 (fun e => { e with state := .pending, count := 1, last := some true, mark := mark })
theorem test_debounceExpiry_marked :
    after (.debounceExpiry 2) (hotPending (some 14315))
      (fun t => ((t.warn.entry 2).map (fun e => (e.state, e.mark)), t.chime.queue)) = some (some (.acked, none), []) := by
  decide
theorem test_debounceExpiry_raised :
    after (.debounceExpiry 2) (hotPending none)
      (fun t => ((t.warn.entry 2).map (fun e => (e.state, e.raise)), t.chime.queue)) =
    some (some (.active, some 0), [⟨2, .a⟩]) := by decide

/-- 5.8.2: entry 8 with no chime entry goes to QUIET when its edge timer reaches 20. -/
def edgeActive (timer : Nat) : State :=
  entry (part .active 22000) 8 (fun e => { e with state := .active, last := some false, edgeTimer := timer })
theorem test_edgeTimerExpiry :
    after (.edgeTimerExpiry 8) (edgeActive 19) (fun t => (t.warn.entry 8).map (fun e => (e.state, e.edgeTimer))) =
    some (some (.quiet, 20)) := by decide

theorem test_rotationAdvance :
    after .rotationAdvance
      { part .active 2000 with readout := { State.reset.readout with page := .lastTrip, rotPos := .time, rotCount := 19 } }
      (fun t => (t.readout.rotPos, t.readout.rotCount)) = some (.distance, 0) := by decide

/-- R159, R160: at 32 the STATUS carries 32 and the generator passes to 65; ACTIVE at FRONT is code 2. -/
theorem test_heartbeatTick :
    after .heartbeatTick { part .active 200 with peer := { State.reset.peer with generator := some 32#7 } }
      (fun t => (t.peer.generator, t.line.tx.map TxEntry.data, t.pw.nextHeart)) =
    some (some 65#7, [[32#8, 2#8]], some 400) := by decide
/-- 10.7: INSERT ONCE sends 10 exclusive-or 55H, which is 95. -/
theorem test_heartbeatTick_once :
    after .heartbeatTick { part .standby 200 with peer := { State.reset.peer with generator := some 10#7, once := true } }
      (fun t => (t.peer.generator, t.line.tx.map TxEntry.data, t.peer.once)) =
    some (some 20#7, [[95#8, 1#8]], false) := by decide

/-- 3.2.5: record B restarts when its elapsed time would pass 359,999. -/
theorem test_oneSecondTick_restart :
    after .oneSecondTick
      { part .active 1000 with
        trip := { State.reset.trip with b := ⟨4812330, 511206, 359999⟩, snapB := ⟨18400, 1930, 1260⟩ } }
      (fun t => (t.trip.b, t.trip.snapB, t.readout.second)) =
    some (⟨0, 0, 1⟩, ⟨4812330, 511206, 359999⟩, 1) := by decide
/-- 8.5.2: a minute change of a set clock at FRONT queues a CLOCK frame of 23:59:00. -/
theorem test_oneSecondTick_minute :
    after .oneSecondTick (clockAt (part .standby 1000) 23 58 59 12370)
      (fun t => (t.readout.hour, t.readout.minute, t.readout.second, t.line.tx.map TxEntry.data)) =
    some (23, 59, 0, [[23#8, 59#8, 0#8, 0x30#8, 0x52#8]]) := by decide

/-- 8.5.2: midnight makes day 12,371 and one COUNTERS write. -/
theorem test_dayStep :
    after .dayStep (clockAt (part .standby 1000) 23 59 59 12370)
      (fun t => (t.readout.hour, t.readout.day, t.pw.queue.map WriteEntry.key)) = some (0, 12371, [.counters]) := by decide

/-- The engine running: ENGINE FRESH at 800 rpm. -/
def engineOn (s : State) (seconds hours : Nat) : State :=
  let s := bound s .engine 3 0
  { s with sig := { s.sig with engine := { s.sig.engine with speed := 800 } }
           service := { s.service with seconds := seconds, hours := hours } }

/-- R117, R118: tenth 14,000 begins a whole hour, and a COUNTERS write is queued. -/
theorem test_engineHoursStep :
    after .engineHoursStep (engineOn (part .active 1000) 359 13999)
      (fun t => (t.service.hours, t.service.seconds, t.pw.queue.map WriteEntry.key)) = some (14000, 0, [.counters]) := by
  decide

/-- 2.7.2: at 30 s the part writes 12 and announces 12; ODOMETER FAULT stays. -/
theorem test_unknownTimeout :
    after .unknownTimeout
      { part .active 30000 with
        acc := { State.reset.acc with odo := 12, odoUnknown := true, unknownCond := true, unknownTimer := some 29 } }
      (fun t => (t.acc.odoUnknown, t.acc.unknownCond, t.pw.queue, t.line.tx.map TxEntry.data)) =
    some (false, true, [{ key := .odometer, data := slotWords 12 }], [[0#8, 0#8, 12#8, 0#8]]) := by decide

theorem test_markExpiry :
    after (.markExpiry 2) (entry (part .active 14000) 2 (fun e => { e with mark := some 14315 }))
      (fun t => (t.warn.entry 2).map Warning.mark) = some (some none) := by decide

theorem test_lampTestEnd :
    after .lampTestEnd { part .active 7000 with warn := { (part .active 0).warn with lampTest := some 8000 } }
      (fun t => (t.warn.lampTest, t.warn.lamps, t.pw.time)) = some (none, List.replicate 12 .off, 8000) := by decide

/-! ## The line -/

/-- Line levels from digits, 1 for recessive. -/
def levels (ds : List Nat) : List Bool := ds.map (fun d => d == 1)

/-- 9.2: a WARN ACK of station 1 for warning 2: bytes 100, 18, 2, 0 and 135, each with its start and stop bit. -/
def warnAckBits : List Bool :=
  levels ([0, 0,1,1,0,0,1,0,0, 1] ++ [0, 0,0,0,1,0,0,1,0, 1] ++ [0, 0,0,0,0,0,0,1,0, 1] ++ [0, 0,0,0,0,0,0,0,0, 1] ++
    [0, 1,0,0,0,0,1,1,1, 1])

theorem test_frameReceive_good :
    after (.frameReceive warnAckBits false) (part .load 170)
      (fun t => (t.line.inbound, t.line.ackDriven, t.tally.rxCheckErrors)) =
    some ([{ frame := { kind := 4, source := 1, data := [2#8, 0#8] }, arrival := 170 }], true, 0) := by decide
/-- R146: a check byte that is wrong by one bit. -/
theorem test_frameReceive_bad :
    after (.frameReceive (warnAckBits.take 48 ++ levels [0, 1]) true) (part .active 170)
      (fun t => (t.line.inbound, t.line.ackDriven, t.tally.rxCheckErrors, t.line.pause)) =
    some ([], false, 1, some 210) := by decide

/-- 9.9: BODY (priority 4) beats ODO ANNOUNCE (6) at the second priority bit. -/
theorem test_frameBegin_arbitration :
    after (.frameBegin (levels [0, 1, 0, 0]))
      (queued (part .active 266) [waiting 8 none [0#8, 0#8, 0#8, 0#8], waiting 11 none [1#8, 2#8]])
      (fun t => (t.line.tx.map TxEntry.sending, t.line.tx.map TxEntry.attempts)) = some ([false, false], [0, 0]) := by
  decide
theorem test_frameBegin_sent :
    after (.frameBegin []) (queued (part .active 266) [waiting 8 none [0#8, 0#8, 0#8, 0#8], waiting 11 none [1#8, 2#8]])
      (fun t => (t.line.tx.map TxEntry.sending, t.line.idle)) = some ([true, false], false) := by decide

/-- 9.5.1: the CLOCK of 10:41:00 in transmission, its replacement 11:41:00, and a STATUS behind it. -/
def clockSending (s : State) : State :=
  queued s [{ waiting 9 none [10#8, 41#8, 0#8, 0#8, 0#8] with
                sending := true, replacement := some [11#8, 41#8, 0#8, 0#8, 0#8] }, waiting 11 none [1#8, 2#8]]
theorem test_attemptEnd_acked :
    after (.attemptEnd true false) (clockSending (part .active 500)) (fun t => t.line.tx) =
    some [waiting 9 none [11#8, 41#8, 0#8, 0#8, 0#8], waiting 11 none [1#8, 2#8]] := by decide
/-- R151: without ACK the entry is kept, takes its replacement, and has one attempt. -/
theorem test_attemptEnd_kept :
    after (.attemptEnd false true) (clockSending (part .active 500))
      (fun t => (t.line.tx.map TxEntry.attempts, t.line.tx.map TxEntry.data, t.line.pause)) =
    some ([1, 0], [[11#8, 41#8, 0#8, 0#8, 0#8], [1#8, 2#8]], some 540) := by decide

theorem test_holdPauseEnd :
    after .holdPauseEnd { part .active 500 with line := { State.reset.line with pause := some 540 } }
      (fun t => (t.line.pause, t.pw.time)) = some (none, 540) := by decide

/-- R156: one fault is counted, and the attempt in progress ends without ACK. -/
theorem test_lineFaultDetect :
    after .lineFaultDetect (clockSending (part .active 500))
      (fun t => (t.line.fault, t.tally.lineFaults, t.line.tx.map TxEntry.attempts)) = some (true, 1, [1, 0]) := by decide
/-- R156: a second run is counted while the fault is set, and breaks off a frame in reception, uncounted. -/
theorem test_lineFaultDetect_again :
    after .lineFaultDetect
      { part .active 500 with line := { State.reset.line with fault := true, rx := .midFrame [false], ackDriven := true } }
      (fun t => (t.line.fault, t.line.rx, t.line.ackDriven, t.tally.lineFaults, t.tally.rxCheckErrors)) =
    some (true, .ready, false, 1, 0) := by decide
theorem test_lineFaultClear :
    after .lineFaultClear { part .active 500 with line := { State.reset.line with fault := true } }
      (fun t => (t.line.fault, t.tally.lineFaults)) = some (false, 0) := by decide

/-- R146: a frame of a bad length is not acknowledged, whatever the frame before it was. -/
theorem test_frameReceive_badLength :
    after (.frameReceive (warnAckBits.take 10 ++ levels [0, 0, 0, 0, 1, 0, 1, 1, 1, 1]) false)
      { part .active 500 with line := { State.reset.line with ackDriven := true } }
      (fun t => (t.line.ackDriven, t.line.rx, t.tally.rxCheckErrors)) = some (false, .waitIdle, 1) := by decide

/-- R146: a frame that breaks off is counted once the line is idle; R157: a wait for the idle line is not. -/
theorem test_lineIdle_midFrame :
    after .lineIdle { part .active 500 with line := { State.reset.line with rx := .midFrame [false] } }
      (fun t => (t.line.rx, t.line.idle, t.tally.rxCheckErrors)) = some (.ready, true, 1) := by decide
theorem test_lineIdle_waiting :
    after .lineIdle { part .stabilise 500 with line := { State.reset.line with rx := .waitIdle } }
      (fun t => (t.line.rx, t.line.idle, t.tally.rxCheckErrors)) = some (.ready, true, 0) := by decide

/-! ## Frames the Dispatcher takes -/

/-- 1.3.2: the binding ENGINE frame of station 3, fuel count 812; 800 rpm, 90 °C and 200 kPa by R6. -/
theorem test_engine :
    after .engine (got (heard (part .active 21380) 3 21350) 1 3 [25#8, 130#8, 50#8, 3#8, 0x2C#8, 0xA0#8])
      (fun t => (t.sig.engineHdr, t.sig.engine, t.acc.fuelBase)) =
    some ({ fresh := .fresh, bound := some 3, arrival := 21380, rebound := true },
      { speed := 800, coolant := 90, oil := 200, fuelCount := 812#16, chargeFault := true, checkEngine := false,
        oilSwitch := true }, some 812) := by decide

/-- 2.2.4: the state before a frame of the run of CHASSIS updates. -/
def chassisRun (base residue : Nat) : State :=
  let s := bound (heard (part .active 5000) 5 4900) .chassis 5 4900
  { s with cal := { s.cal with kDist := 4971 }
           acc := { s.acc with distBase := some (BitVec.ofNat 16 base), distRes := residue } }
/-- 2.2.4, frame 4: the count wraps from 65,530 to 24. -/
theorem test_chassis_wrap :
    after .chassis (got (chassisRun 65530 174) 2 5 [0#8, 24#8, 0#8])
      (fun t => (t.acc.distRes, t.acc.metres, t.trip.a.dist, t.trip.winDist, t.tally.distanceGaps)) =
    some (348, 6, 6, 6, 0) := by decide
/-- 2.2.4, frame 5: 2,976 pulses are a gap. -/
theorem test_chassis_gap :
    after .chassis (got (chassisRun 24 348) 2 5 [0x0B#8, 0xB8#8, 0#8])
      (fun t => (t.acc.distBase, t.acc.distRes, t.acc.metres, t.tally.distanceGaps)) =
    some (some 3000, 348, 0, 1) := by decide

theorem test_body :
    after .body (got (heard (part .standby 900) 7 800) 5 7 [0x81#8, 0x80#8, 124#8, 20#8])
      (fun t => (t.sig.body.door1, t.sig.body.door2, t.sig.body.keyIn, t.sig.body.beltOpen, t.sig.body.battery,
        t.sig.body.outside)) = some (true, false, true, true, 124, -20) := by decide

/-- 3.3.4, frame 1: from 25,600 toward 21,504 by 256. -/
theorem test_fuelLevel :
    after .fuelLevel
      (got { heard (part .active 900) 3 800 with trip := { State.reset.trip with f := 25600, received := true } }
        6 3 [84#8, 0#8])
      (fun t => (t.trip.f, t.sig.fuel.sender, t.sig.fuelHdr.fresh)) = some (25344, 84, .fresh) := by decide
/-- R12: a sender fault hands nothing on and keeps the sender value. -/
theorem test_fuelLevel_fault :
    after .fuelLevel
      (got { heard (part .active 900) 3 800 with trip := { State.reset.trip with f := 25600, received := true } }
        6 3 [84#8, 0x80#8])
      (fun t => (t.trip.f, t.sig.fuel.sender, t.sig.fuel.senderFault)) = some (25600, 0, true) := by decide

/-- 5.8.1: REAR's entry 2 is PENDING at 12,315: the mark is live to 14,315. -/
theorem test_warnAck_mark :
    after .warnAck (got (entry (part .active 12315) 2 (fun e => { e with state := .pending, count := 22 })) 4 0 [2#8, 0#8])
      (fun t => (t.warn.entry 2).map (fun e => (e.state, e.mark))) = some (some (.pending, some 14315)) := by decide
/-- 6.6.4: in CRANK, warning 2 is acknowledged and its chime entry removed. -/
theorem test_warnAck_crank :
    after .warnAck
      (got { entry (part .crank 1500) 2 (fun e => { e with state := .active }) with
             chime := { (part .crank 0).chime with queue := [⟨2, .a⟩, ⟨5, .b⟩] } } 4 0 [2#8, 0#8])
      (fun t => ((t.warn.entry 2).map Warning.state, t.chime.queue)) = some (some .acked, [⟨5, .b⟩]) := by decide

/-- 7.6.2 at REAR: 617,004 is 096A2CH and day 12,370 is 3052H. -/
def workshop (role : Role) (hours : Nat) : State :=
  let s := bound (bound (part .active 5000) .engine 3 4900) .chassis 5 4900
  { s with pw := { s.pw with role := role }
           acc := { s.acc with odo := 617004, slot := some 2 }
           readout := { s.readout with day := 12370 }
           service := { s.service with
             hours := hours
             items := s.service.items.map (fun i =>
               { i with odoBase := 452000, dayBase := 12000, hoursBase := 1100, state := .overdue }) } }
theorem test_serviceReset :
    after .serviceReset (got (workshop .rear 14027) 7 0 [0#8, 0x09#8, 0x6A#8, 0x2C#8, 0x30#8, 0x52#8])
      (fun t => (t.service.items[0]?.map (fun i => (i.odoBase, i.dayBase, i.hoursBase, i.state)),
        t.pw.queue.map WriteEntry.key)) = some (some (617004, 12370, 1402, .ok), [.service]) := by decide
/-- 7.6.2 at FRONT. -/
theorem test_serviceResetKey :
    after .serviceResetKey (got (workshop .front 14034) 3 9 [0#8, 9#8, 0#8])
      (fun t => (t.service.items[0]?.map (fun i => (i.odoBase, i.dayBase, i.hoursBase)), t.pw.queue.map WriteEntry.key,
        t.line.tx.map TxEntry.data)) =
    some (some (617004, 12370, 1403), [.odometer, .service], [[0#8, 0x09#8, 0x6A#8, 0x2C#8, 0x30#8, 0x52#8]]) := by
  decide
/-- 7.6.2: the same key at REAR is refused. -/
theorem test_serviceResetKey_rear :
    after .serviceResetKey (got (workshop .rear 14027) 3 9 [2#8, 9#8, 0#8])
      (fun t => (t.service.items[0]?.map (fun i => (i.odoBase, i.state)), t.pw.queue, t.chime.click)) =
    some (some (452000, .overdue), [], some { refusal := true, start := 5000, second := false }) := by decide

/-- The part with an odometer. -/
def odometer (s : State) (odo : Nat) : State := { s with acc := { s.acc with odo := odo, slot := some 3 } }
/-- 2.7.1: REAR at 45,190 takes 45,200 (00B090H). -/
theorem test_odoAnnounce_adopts :
    after .odoAnnounce (got (odometer (part .active 9000) 45190) 8 4 [0#8, 0xB0#8, 0x90#8, 0#8])
      (fun t => (t.acc.odo, t.pw.queue, t.line.tx.map TxEntry.data)) =
    some (45200, [{ key := .odometer, data := slotWords 45200 }], [[0#8, 0xB0#8, 0x90#8, 0#8]]) := by decide +kernel
/-- 2.7.3: FRONT at 45,120 takes 51,700 (00C9F4H). -/
theorem test_odoAnnounce_disagrees :
    after .odoAnnounce (got (odometer (part .active 9000) 45120) 8 5 [0#8, 0xC9#8, 0xF4#8, 0#8])
      (fun t => (t.acc.odo, t.acc.disagree, t.tally.odometerDisagree, t.line.tx)) = some (45120, true, 1, []) := by decide

/-- The REAR cluster. -/
def rear (s : State) : State := { s with pw := { s.pw with role := .rear } }
/-- 8.5.2: at REAR's 00:00:00 of day 12,371 a frame of 23:59:00 of day 12,370 (3052H) is ignored. -/
theorem test_clock_late :
    after .clock (got (clockAt (rear (part .standby 9000)) 0 0 0 12371) 9 4 [23#8, 59#8, 0#8, 0x30#8, 0x52#8])
      (fun t => (t.readout.hour, t.readout.minute, t.readout.day)) = some (0, 0, 12371) := by decide
/-- 8.5.2: the same frame in time is taken, and a higher day is a day step. -/
theorem test_clock_taken :
    after .clock (got (clockAt (rear (part .standby 9000)) 12 0 0 12369) 9 4 [23#8, 59#8, 0#8, 0x30#8, 0x52#8])
      (fun t => (t.readout.hour, t.readout.minute, t.readout.day, t.pw.queue.map WriteEntry.key)) =
    some (23, 59, 12370, [.counters]) := by decide

/-- R180: US units, a limit of 29 taken as 30, a volume of 9 taken as 4, the 12-hour format. -/
theorem test_options :
    after .options (got (part .active 9000) 10 7 [1#8, 29#8, 9#8, 1#8])
      (fun t => (t.pw.units, t.pw.overspeed, t.pw.volume, t.pw.clock12, t.pw.optionsTaken)) =
    some (.us, 30, 4, true, true) := by decide

/-- The part with the record of station 5. -/
def record5 (s : State) (state : StationState) (last : BitVec 7) (window : List Outcome3) : State :=
  { s with peer := { s.peer with
      stations := s.peer.stations.set 5 { Station.reset with state := state, last := some last, window := window, seen := true } } }
/-- 10.7: 97 was superseded, so 66 after 48 is a miss. -/
theorem test_status_miss :
    after .status (got (record5 (part .active 9000) .sync 48#7 [.hit]) 11 5 [66#8, 2#8])
      (fun t => ((t.peer.station 5).state, (t.peer.station 5).window, (t.peer.station 5).tallies.misses)) =
    some (.sync, [.hit, .miss], 1) := by decide
/-- 10.7: 71 after 118 is the fourth mismatch of the window: SLIP. -/
theorem test_status_slip :
    after .status
      (got (record5 (part .active 9000) .sync 118#7 [.mismatch, .mismatch, .hit, .hit, .mismatch]) 11 5 [71#8, 2#8])
      (fun t => ((t.peer.station 5).state, (t.peer.station 5).tallies.mismatches, (t.peer.station 5).tallies.slips)) =
    some (.slip, 1, 1) := by decide

/-- R166, R167: the tallies are copied and cleared, and the first part of index 16 is queued. -/
theorem test_tallyRequest :
    after .tallyRequest (got { part .active 9000 with tally := { OwnTallies.zero with foreignFrames := 3 } } 12 9 [0#8])
      (fun t => (t.tally.foreignFrames, t.peer.snapshot.own.foreignFrames, t.line.tx.map TxEntry.subject)) =
    some (0, 3, [some 16]) := by decide

/-- R181: word 10 takes 0050H; the reply is OK, and while the car moves REFUSED. -/
theorem test_calWrite :
    after .calWrite (got (part .active 9000) 14 9 [0#8, 0#8, 10#8, 0#8, 0x50#8])
      (fun t => (t.pw.queue, t.line.tx.map TxEntry.data)) =
    some ([{ key := .calWord 10, data := [0x50#16] }], [[0#8, 10#8, 0#8]]) := by decide
theorem test_calWrite_moving :
    after .calWrite
      (got { part .active 9000 with acc := { State.reset.acc with speed := 506 } } 14 9 [0#8, 0#8, 10#8, 0#8, 0x50#8])
      (fun t => (t.pw.queue, t.line.tx.map TxEntry.data)) = some ([], [[0#8, 10#8, 1#8]]) := by decide

theorem test_tallyReport :
    after .tallyReport (got (part .active 9000) 13 9 [1#8]) (fun t => t.line.inbound) = some [] := by decide
theorem test_calReply : after .calReply (got (part .active 9000) 15 9 []) (fun t => t.line.inbound) = some [] := by decide
theorem test_unknownKind :
    after .unknownKind (got (part .active 9000) 17 9 [1#8]) (fun t => t.line.inbound) = some [] := by decide
/-- R1: in LOAD the frame waits. -/
theorem test_unknownKind_load :
    after .unknownKind (got (part .load 90) 0 9 [1#8]) (fun t => t.line.inbound.length) = some 1 := by decide

/-! ## TEST frames -/

theorem test_lamp :
    after .lamp (got (part .active 9000) 16 9 [0#8, 1#8, 0#8]) (fun t => (t.warn.lampTest, t.warn.lamps)) =
    some (some 12000, List.replicate 12 .steady) := by decide
theorem test_insertRate :
    after .insertRate (got (part .active 9000) 16 9 [0#8, 2#8, 9#8]) (fun t => (t.peer.rate, t.peer.count)) =
    some (3, 0) := by decide
theorem test_insertOnce :
    after .insertOnce (got (part .active 9000) 16 9 [0#8, 3#8, 0#8]) (fun t => t.peer.once) = some true := by decide
/-- R175: a frame for another station has no effect. -/
theorem test_insertOnce_other :
    after .insertOnce (got (part .active 9000) 16 9 [1#8, 3#8, 0#8]) (fun t => (t.peer.once, t.line.inbound)) =
    some (false, []) := by decide
theorem test_restart :
    after .restart (got (part .active 9000) 16 9 [0#8, 4#8, 0#8]) (fun t => t.pw.restartPending) = some true := by decide

/-! ## Keys (8.5.1) -/

/-- The FRONT cluster in ACTIVE on a page, with a trip record B. -/
def onPage (p : Page) : State :=
  { part .active 1500 with readout := { State.reset.readout with page := p, tripSel := .b }
                           trip := { State.reset.trip with b := ⟨18400, 1930, 1260⟩ } }
theorem test_pageNext :
    after .pageNext (got (onPage .clock) 3 9 [0#8, 1#8, 0#8]) (fun t => (t.readout.page, t.chime.mode)) =
    some (.range, .click) := by decide
theorem test_pageBack :
    after .pageBack (got (onPage .avgEconomy) 3 9 [0#8, 2#8, 0#8]) (fun t => t.readout.page) = some .range := by decide
theorem test_tripSelect :
    after .tripSelect (got (onPage .avgEconomy) 3 9 [0#8, 3#8, 0#8]) (fun t => t.readout.tripSel) = some .a := by decide
/-- The key of 800 sent again arrives at 812: a repeat. -/
theorem test_tripSelect_repeat :
    after .tripSelect
      (got { onPage .avgEconomy with
             readout := { (onPage .avgEconomy).readout with
               lastKey := some { source := 9, target := 0#8, code := 3#8, arg := 0#8, arrival := 1488 } } }
        3 9 [0#8, 3#8, 0#8])
      (fun t => (t.readout.tripSel, t.chime.mode)) = some (.b, .idle) := by decide
theorem test_tripReset :
    after .tripReset (got (onPage .avgEconomy) 3 9 [0#8, 4#8, 0#8]) (fun t => (t.trip.b, t.trip.snapB, t.chime.mode)) =
    some (⟨0, 0, 0⟩, ⟨18400, 1930, 1260⟩, .click) := by decide
theorem test_tripReset_refused :
    after .tripReset (got (onPage .range) 3 9 [0#8, 4#8, 0#8])
      (fun t => (t.trip.b, t.chime.click.map Click.refusal)) = some (⟨18400, 1930, 1260⟩, some true) := by decide
theorem test_odoSelect :
    after .odoSelect (got (onPage .avgEconomy) 3 9 [0#8, 5#8, 0#8])
      (fun t => (t.readout.odoSel, t.readout.odoShown.sign)) = some (.tripA, .a) := by decide
/-- 5.8.3: ACKNOWLEDGE at REAR acknowledges entry 4 and sends a WARN ACK with origin REAR. -/
theorem test_acknowledge_rear :
    after .acknowledge
      (got (rear (entry (entry (part .active 9000) 4 (fun e => { e with state := .active, raise := some 1 }))
        1 (fun e => { e with state := .active, raise := some 0 }))) 3 9 [1#8, 6#8, 0#8])
      (fun t => ((t.warn.entry 4).map Warning.state, (t.warn.entry 1).map Warning.state, t.line.tx.map TxEntry.data,
        t.chime.mode)) = some (some .acked, some .active, [[4#8, 0x80#8]], .click) := by decide
/-- 6.6.1: the A pattern stops, B plays from its first step, and the click is skipped. -/
theorem test_acknowledge_tone :
    after .acknowledge
      (got (playing (entry (part .active 2300) 2 (fun e => { e with state := .active })) [⟨2, .a⟩, ⟨5, .b⟩, ⟨4, .c⟩] 1 2400)
        3 9 [0#8, 6#8, 0#8])
      (fun t => (t.chime.queue, t.chime.mode, t.chime.playing, t.chime.step)) =
    some ([⟨5, .b⟩, ⟨4, .c⟩], .pattern, some 5, some { index := 0, ends := 2450 }) := by decide
theorem test_hour :
    after .hour (got (clockAt (part .standby 1500) 23 59 30 7) 3 9 [0#8, 7#8, 0#8])
      (fun t => (t.readout.hour, t.readout.second, t.readout.day, t.line.tx.map TxEntry.data)) =
    some (0, 30, 7, [[0#8, 59#8, 30#8, 0#8, 7#8]]) := by decide
theorem test_minute :
    after .minute (got (clockAt (part .active 1500) 23 59 30 7) 3 9 [2#8, 8#8, 0#8])
      (fun t => (t.readout.hour, t.readout.minute, t.readout.second)) = some (23, 0, 0) := by decide
/-- 5.8.2: the CALL key at FRONT sets call-pending. -/
theorem test_call :
    after .call (got (part .active 20030) 3 9 [0#8, 10#8, 0#8]) (fun t => (t.warn.callPending, t.chime.mode)) =
    some (true, .click) := by decide

/-! ## Tones and writes -/

/-- The part with a click begun at 1,000. -/
def clicking (refusal second : Bool) : State :=
  { part .active 1000 with
    chime := { State.reset.chime with mode := .click, click := some { refusal := refusal, start := 1000, second := second } } }
theorem test_secondClick :
    after .secondClick (clicking true false) (fun t => (t.pw.time, t.chime.mode, t.chime.click.map Click.second)) =
    some (1080, .click, some true) := by decide
theorem test_clickEnd :
    after .clickEnd (clicking false false) (fun t => (t.pw.time, t.chime.mode, t.chime.click)) =
    some (1015, .idle, none) := by decide
/-- 6.6.1: A's tone from 400 ends at 1,000, and its gap lasts to 1,400. -/
theorem test_patternStepEnd :
    after .patternStepEnd (playing (part .active 900) [⟨2, .a⟩, ⟨5, .b⟩] 0 1000) (fun t => (t.pw.time, t.chime.step)) =
    some (1000, some { index := 1, ends := 1400 }) := by decide
/-- 6.6.1: B ends at 3,200, and C's tone lasts to 3,600. -/
theorem test_patternEnd :
    after .patternEnd (playing (part .active 3100) [⟨5, .b⟩, ⟨4, .c⟩] 5 3200)
      (fun t => (t.pw.time, t.chime.queue, t.chime.playing, t.chime.step)) =
    some (3200, [⟨4, .c⟩], some 4, some { index := 0, ends := 3600 }) := by decide

/-- R108, R109: at 100 ms the trip tick and the end of B's first step fall due together; the tick alone is queued, and where
it has removed B, the end of the step does not come. -/
def dueTogether (q : List ChimeEntry) : State :=
  { playing (part .active 100) q 0 100 with pw := { (part .active 100).pw with nextGauge := none } }
theorem test_idle_first_due : (idle (dueTogether [⟨5, .b⟩])).pending = [.tripTick 0#16] := by decide
theorem test_idle_stopped_pattern :
    after (.tripTick 0#16) (dueTogether [⟨5, .b⟩])
      (fun t => (t.chime.queue, (idle { t with pw := { t.pw with nextHeart := none } }).pending)) = some ([⟨5, .b⟩], [.patternStepEnd]) ∧
    after (.tripTick 0#16) (entry (dueTogether [⟨5, .b⟩]) 5 (fun e => { e with state := .active }))
      (fun t => (t.chime.queue, (idle { t with pw := { t.pw with nextHeart := none } }).pending)) = some ([], []) := by
  decide +kernel

/-- 2.5.5: the write of 45,100 begins on slot 4, before the older SERVICE entry (R179). -/
def writesWaiting : State :=
  { part .active 9000 with
    acc := { State.reset.acc with odo := 45100, slot := some 3 }
    pw := { (part .active 9000).pw with
      queue := [{ key := .service, data := [] }, { key := .odometer, data := slotWords 45100 }] } }
theorem test_writeBegin :
    after .writeBegin writesWaiting (fun t => (t.pw.writing.map (fun j => (j.key, j.base, j.target)), t.pw.queue.length)) =
    some (some (.odometer, 392, 4), 1) := by decide
/-- 2.5.5: the completed write stands in slot 4, and the current slot index is 4. -/
theorem test_writeComplete :
    after .writeComplete
      { part .active 9000 with
        mem := saved, pw := { (part .active 9000).pw with
          writing := some { key := .odometer, base := 392, data := slotWords 45100, target := 4 } } }
      (fun t => (t.acc.slot, slotOf (loadImage t.mem 446 []) 4, slotOf (loadImage t.mem 446 []) 3, memWf t.mem)) =
    some (some 4, some 45100, some 45090, true) := by decide

/-! ## Witnesses: states and operands that meet the hypotheses of the statements, clause by clause -/

/-- The Dispatcher's states, a frame of a kind alone in the inbound queue: the common hypotheses of the frame statements. -/
abbrev Takes (s : State) (f : Stored) (kind : BitVec 5) : Prop :=
  (s.pw.state = .standby ∨ s.pw.state = .active ∨ s.pw.state = .crank) ∧ s.line.inbound = f :: [] ∧ f.frame.kind = kind

/-- A stored frame. -/
def stored (kind : BitVec 5) (source : StationNo) (data : List Byte) (arrival : Nat) : Stored :=
  { frame := { kind := kind, source := source, data := data }, arrival := arrival }

theorem witness_StepRunsFrontCommand :
    ({ State.reset with pending := [.runOn, .startOn] } : State).pending = .runOn :: [.startOn] := by decide

theorem witness_FinishSettles :
    (part .active 0).pw.state ≠ .standby ∧
    ((returned.pw.state = .standby ∧ keepAwake returned = false ∧ returned.pw.returning = true)) ∧
    ((part .standby 0).pw.state = .standby ∧ keepAwake (part .standby 0) = false ∧
      (part .standby 0).pw.returning = false) ∧
    (let s := { part .standby 0 with pins := { State.reset.pins with run := true } }
     s.pw.state = .standby ∧ keepAwake { s with pw := { s.pw with queue := [{ key := .trip, data := [] }] } } = true) ∧
    (let s := entry (part .active 0) 2 (fun e => { e with state := .active })
     s.warn.lampTest = none ∧ ∃ e ∈ (s.warn.entry 2).toList, e.cfg.lamp = some 1 ∧ e.cfg.cls = .a ∧ e.state = .active) := by
  decide

theorem witness_Resets :
    State.reset.pw.writing = none ∧
    (let s := { State.reset with pw := { State.reset.pw with
        writing := some { key := .trip, base := 425, data := List.replicate 17 0#16, target := 0 } } }
     s.pw.writing = some { key := .trip, base := 425, data := List.replicate 17 0#16, target := 0 }) ∧
    (let s := { part .active 0 with pw := { (part .active 0).pw with restartPending := true } }
     s.pw.restartPending = true ∧ s.pw.queue = [] ∧ s.pw.writing = none) := by decide

theorem witness_LoadEndState :
    (State.reset.pw.state = .load ∧ State.reset.pins.run = false ∧ State.reset.peer.generator = none) ∧
    ((part .load 0).pw.state = .load ∧
      ({ part .load 0 with peer := { State.reset.peer with generator := some 1#7 } } : State).peer.generator ≠ none) ∧
    (let s := { State.reset with
        pins := { State.reset.pins with run := true }
        line := { State.reset.line with tx := (List.range 7).map (fun n => waiting 4 (some n) []) } }
     s.pw.state = .load ∧ s.pins.run = true ∧ s.line.tx.length = 7) := by decide

theorem witness_LoadEndCalibration :
    (State.reset.pw.state = .load ∧ after (.loadEnd 446 []) State.reset (fun t => t.pw.calFault) = some true) ∧
    (let s := { State.reset with mem := saved }
     s.pw.state = .load ∧ after (.loadEnd 446 []) s (fun t => t.pw.calFault) = some false ∧
       after (.loadEnd 383 []) s (fun t => t.pw.calFault) = some true) := by decide +kernel

/-- A CALIBRATION area with a speed gauge whose second input lies below its first, a sense input pulled up, a position in use
beside ones that are not, and a service interval below its lower clamp. -/
def calibrated : Memory :=
  memWriteAll (memWriteAll (memWriteAll (memWriteAll [] 16 [1#16, 2#16, 70#16, 5#16, 60#16, 2000#16])
    179 [0x0101#16]) 195 [0#16, 0x8000#16, 0#16, 0#16, 0#16, 0x7FFF#16]) 323 [1#16, 0#16, 0#16, 1#16]

theorem witness_LoadEndCalibration_image :
    let i := loadImage calibrated 446 []
    ((tankOf i)[8]?.isSome = true ∧ (tankOf i)[9]? = none) ∧
    (∃ c ∈ (channelsOf i)[0]?.toList, c.source ≠ .off ∧ c.curve = [⟨70, 5⟩, ⟨70, 1080⟩]) ∧
    (∃ c ∈ (channelsOf i)[5]?.toList, c.source = .off) ∧
    (sensesOf i)[0]? = some { pull := .up, activeHigh := true } ∧
    (32768 ≤ i.nat 196 ∧ ((positionsOf i)[0]?.getD none).isSome = true) ∧
    (i.nat 200 < 32768 ∧ (positionsOf i)[1]? = some none) ∧
    (∃ c ∈ (serviceCfgsOf i)[0]?.toList, c.kmInterval = 500 ∧ c.daysInterval = 0 ∧ c.kmMargin = 1) := by decide +kernel

theorem witness_LoadEndRestores :
    (State.reset.pw.state = .load ∧ ∀ k, k < 8 → slotOf (loadImage [] 446 []) k = none) ∧
    ((loadImage [] 446 []).valid 425 16 = false ∧ (loadImage [] 446 []).valid 400 24 = false) ∧
    (let i := loadImage saved 446 []
     ({ State.reset with mem := saved } : State).pw.state = .load ∧ slotOf i 3 = some 45090 ∧ i.valid 400 24 = true ∧
       i.valid 425 16 = true ∧ i.nat 437 * 10 = 63990 ∧ i.valid 442 3 = true) := by decide +kernel

theorem witness_StabiliseEnd :
    ((part .stabilise 0).pw.state = .stabilise ∧ (part .stabilise 0).pins.run = false) ∧
    (let s := { part .stabilise 0 with pins := { State.reset.pins with run := true } }
     s.pw.state = .stabilise ∧ s.pins.run = true ∧ s.pins.start = false) ∧
    (let s := { part .stabilise 0 with pins := { State.reset.pins with run := true, start := true } }
     s.pw.state = .stabilise ∧ s.pins.run = true ∧ s.pins.start = true) := by decide

/-- The part with its RUN and START levels. -/
def pinned (s : State) (run start : Bool) : State := { s with pins := { s.pins with run := run, start := start } }

theorem witness_RunChanges :
    (let s := pinned (part .standby 0) false false
     s.pins.run = false ∧ s.pw.state = .standby ∧ s.pins.start = false) ∧
    (let s := pinned (part .standby 0) false true
     s.pins.run = false ∧ s.pw.state = .standby ∧ s.pins.start = true) ∧
    (let s := pinned (part .load 0) false false
     s.pins.run = false ∧ s.pw.state ≠ .standby ∧ s.pw.state ≠ .sleep) ∧
    (let s := pinned (part .active 0) true false
     s.pins.run = true ∧ s.pw.state = .active ∧ s.pins.start = false) ∧
    (let s := pinned (part .crank 0) true true
     s.pins.run = true ∧ ¬ (s.pw.state = .active ∧ s.pins.start = false)) := by decide

theorem witness_StartChanges :
    (let s := pinned (part .active 0) true false
     s.pins.start = false ∧ s.pw.state = .active) ∧
    (let s := pinned (part .standby 0) false false
     s.pins.start = false ∧ s.pw.state ≠ .active ∧ s.pw.state ≠ .sleep) ∧
    (let s := pinned (part .crank 0) true true
     s.pins.start = true ∧ s.pw.state = .crank ∧ s.pins.run = true) ∧
    (let s := pinned (part .crank 0) false true
     s.pins.start = true ∧ s.pw.state = .crank ∧ s.pins.run = false) ∧
    (let s := pinned (part .sleep 0) false true
     s.pins.start = true ∧ s.pw.state ≠ .crank) := by decide

theorem witness_Wake : asleep.pw.state = .sleep ∧ asleep.pins.run = false ∧ asleep.pins.start = false := by decide

theorem witness_ReturnToSleep :
    (let s := { part .standby 0 with pw := { (part .standby 0).pw with keepAlive := some 59 } }
     s.pw.state = .standby ∧ s.pw.keepAlive = some 59 ∧ s.cal.keepAlive = 59 + 1) ∧
    (returned.pw.state = .standby ∧ returned.pw.returning = true ∧
      (∀ c ∈ returned.gauges, c.state = .off ∨ (c.state = .returning ∧ c.angle = 0)) ∧
      returned.pw.queue = [] ∧ returned.pw.writing = none ∧ returned.line.tx = []) := by decide

theorem witness_GaugeTick :
    ((part .active 0).pw.nextGauge = some 20 ∧ (part .active 0).pw.state = .active) ∧
    ((part .crank 0).pw.nextGauge = some 20 ∧
      ¬ ((part .crank 0).pw.state = .stabilise ∨ (part .crank 0).pw.state = .standby ∨ (part .crank 0).pw.state = .active)) := by
  decide

/-- The tachometer with another freshness of its entry. -/
def tachoAge (angle : Nat) (age : Freshness) : State :=
  let s := tacho (part .active 40) angle 800
  { s with sig := { s.sig with engineHdr := { s.sig.engineHdr with fresh := age } } }

theorem witness_ChannelUpdate :
    (let s := { part .active 0 with gauges := [Channel.reset] }
     s.gauges[(0 : Fin 6).val]? = some Channel.reset ∧ s.pw.state = .active ∧ Channel.reset.cal.source = .off) ∧
    (∀ age ∈ [Freshness.none, .fresh, .stale, .lost],
      let s := tachoAge 250 age
      s.pw.state = .active ∧ s.pw.returning = false ∧ sourceFreshness s .engineSpeed = age ∧
        ∃ c ∈ s.gauges[(1 : Fin 6).val]?.toList,
          c.state ≠ .off ∧ c.cal.source = .engineSpeed ∧ c.cal.divider = c.tick + 1) ∧
    (let s := { tachoAge 250 .fresh with pw := { (part .standby 0).pw with returning := true } }
     s.pw.state = .standby ∧ s.pw.returning = true) ∧
    (∀ angle ∈ [0, 359, 360, 719, 720, 1079, 1080],
      after (.channelUpdate 1) (tachoAge angle .stale) (fun t => t.gauges[1]?.map Channel.angle) = some (some angle)) := by
  decide

/-- The coolant curve of channel 3, and one with two points of the same input. -/
theorem witness_MovementAndCurves :
    (let p : CurvePoint := ⟨70, 170⟩
     let rest : List CurvePoint := [⟨110, 190⟩, ⟨110, 200⟩, ⟨130, 360⟩]
     (p :: rest).Pairwise (fun a b => a.input ≤ b.input) ∧ (70 : Int) ≤ p.input ∧
       (p :: rest = [] ++ p :: ⟨110, 190⟩ :: [⟨110, 200⟩, ⟨130, 360⟩] ∧ p.input ≤ 71 ∧ (71 : Int) < 110 ∧ p.input < 71) ∧
       (p :: rest = [p, ⟨110, 190⟩] ++ ⟨110, 200⟩ :: ⟨130, 360⟩ :: [] ∧ (110 : Int) ≤ 110 ∧ (110 : Int) < 130 ∧
         p.input < 110) ∧
       (p :: rest = [p, ⟨110, 190⟩, ⟨110, 200⟩] ++ [⟨130, 360⟩] ∧ (130 : Int) ≤ 130 ∧ p.input < 130)) ∧
    (let p : TankPoint := ⟨96, 400⟩
     let rest : List TankPoint := [⟨128, 520⟩]
     (p :: rest).Pairwise (fun a b => a.sender ≤ b.sender) ∧ 96 ≤ p.sender ∧
       (p :: rest = [] ++ p :: ⟨128, 520⟩ :: [] ∧ p.sender ≤ 100 ∧ 100 < 128 ∧ p.sender < 100) ∧
       (p :: rest = [p] ++ [⟨128, 520⟩] ∧ 128 ≤ 128 ∧ p.sender < 128)) ∧
    ({ State.reset.trip with received := true } : Trip).received = true := by decide

theorem witness_TripTick :
    (∀ p ∈ [Power.load, .stabilise, .standby, .active, .crank], (part p 0).pw.nextTrip = some 100 ∧ (part p 0).pw.state = p) ∧
    (part .active 0).warn.sense[15]? = some { pull := .up, activeHigh := false } ∧
    (∀ n ∈ [18, 19],
      let s := { part .active 0 with readout := { State.reset.readout with page := .lastTrip, rotCount := n } }
      s.pw.nextTrip = some 100 ∧ s.readout.page = .lastTrip ∧ s.readout.rotCount = n) ∧
    (∀ t ∈ [52300, 52301],
      let s := heard (part .active 53300) 5 t
      s.pw.nextTrip = some 100 ∧ ((s.peer.station 5).state ≠ .absent) ∧ (53300 - t = 1000 ∨ 53300 - t = 999)) := by decide

/-- A LEVEL entry and an edge entry in a state. -/
def level (state : WarnState) (count debounce : Nat) : Warning :=
  { Warning.cleared (builtInWarnings.getD 4 (builtIn .never .any 0 .b .front false none 0)) with
    state := state, count := count
    cfg := { builtInWarnings.getD 4 (builtIn .never .any 0 .b .front false none 0) with debounce := debounce } }
def edge (state : WarnState) (timer : Nat) (last : Option Bool) : Warning :=
  { Warning.cleared (builtInWarnings.getD 8 (builtIn .never .any 0 .b .front false none 0)) with
    state := state, edgeTimer := timer, last := last }

theorem witness_EntryAtEvaluation :
    (gateMet (level .active 0 0).cfg.gate (part .standby 0).pw.state = false ∧
      (level .quiet 0 0).state = .quiet ∧ (level .active 0 0).state ≠ .quiet) ∧
    (gateMet (level .quiet 0 0).cfg.gate (part .active 0).pw.state = true ∧ (level .quiet 0 0).cfg.trigger = .level ∧
      (level .quiet 0 0).cfg.debounce = 0 ∧ (level .quiet 0 1).cfg.debounce ≠ 0 ∧ (level .pending 1 1).count ≤ 1 ∧
      1 < (level .pending 2 2).count ∧ (level .pending 2 2).state = .pending ∧ (level .acked 0 0).state = .acked) ∧
    (gateMet (edge .quiet 0 none).cfg.gate (part .active 0).pw.state = true ∧ (edge .quiet 0 none).cfg.trigger ≠ .level ∧
      isEdgeOf (edge .quiet 0 (some false)).cfg.trigger (edge .quiet 0 (some false)).last true = true ∧
      isEdgeOf (edge .quiet 0 none).cfg.trigger (edge .quiet 0 none).last true = false ∧
      (playing (part .active 0) [⟨8, .b⟩] 0 150).chime.holds 8 = true ∧ (part .active 0).chime.holds 8 = false ∧
      (edge .active 18 none).edgeTimer + 1 < 20 ∧ (edge .active 19 none).edgeTimer + 1 = 20) ∧
    ({ level .pending 1 1 with mark := some 9 }.mark ≠ none ∧ (level .pending 1 1).mark = none ∧
      (level .pending 1 1).cfg.audience.includes .rear = true ∧ (edge .quiet 0 none).cfg.audience.includes .rear = false) ∧
    isEdgeOf .edgeFall (some true) false = true ∧ isEdgeOf .edgeAny (some true) false = true ∧
    (∀ op ∈ [Operator.none, .and, .or, .andNot], ({ (level .quiet 0 0).cfg with op := op } : WarnCfg).op = op) ∧
    termValue (bound (part .active 0) .engine 3 0) (part .active 0).warn false (.remote .engine 0) = false ∧
    termValue (part .active 0) (part .active 0).warn true (.computed 11) = true := by decide

theorem witness_WarningExpiries :
    (∀ mark ∈ [some 14315, none],
      ∃ e ∈ ((hotPending mark).warn.entry (2 : Fin 32).val).toList,
        gateMet e.cfg.gate (hotPending mark).pw.state = true ∧ e.state = .pending ∧ e.count = 1 ∧ e.cfg.trigger = .level ∧
          conditionNow (hotPending mark) e.cfg = true ∧ e.mark = mark ∧ e.cfg.audience.includes .front = true) ∧
    (let s := rear { entry (part .active 0) 0 (fun e => { e with state := .pending, count := 1 }) with
        pw := { (part .active 0).pw with role := .rear, calFault := true } }
     ∃ e ∈ (s.warn.entry (0 : Fin 32).val).toList,
       gateMet e.cfg.gate s.pw.state = true ∧ e.state = .pending ∧ e.count = 1 ∧ e.cfg.trigger = .level ∧
         conditionNow s e.cfg = true ∧ e.mark = none ∧ e.cfg.audience.includes s.pw.role = false) ∧
    (∃ e ∈ ((edgeActive 19).warn.entry (8 : Fin 32).val).toList,
      gateMet e.cfg.gate (edgeActive 19).pw.state = true ∧ e.state = .active ∧ e.edgeTimer = 19 ∧ e.cfg.trigger ≠ .level ∧
        (edgeActive 19).chime.holds 8 = false) := by decide

/-- R174: ages across the wrap of the timebase count, at both ends of their range. -/
theorem witness_AgeingRows_wrap :
    (4294967290 ≤ 4294967306 ∧ 4294967306 - 4294967290 < 2 ^ 32 ∧
      (timebaseCount 4294967306 - timebaseCount 4294967290).toNat = 16) ∧
    (5 ≤ 4294967300 ∧ 4294967300 - 5 < 2 ^ 32 ∧ (timebaseCount 4294967300 - timebaseCount 5).toNat = 4294967295) ∧
    (part .active 4294967301).timebase = 5#32 := by decide

theorem witness_AgeingRows :
    (chassisAt10120.pw.nextTrip = some 10700 ∧ (chassisAt10120.sig.hdr .chassis).fresh = .fresh ∧
      max chassisAt10120.pw.time
        (tickAtOrAfter 10700 100 ((chassisAt10120.sig.hdr .chassis).arrival + maxAge .chassis + 1)) -
        (chassisAt10120.sig.hdr .chassis).arrival < lostAge .chassis ∧ (chassisAt10120.peer.station 5).state ≠ .absent) := by
  decide

theorem witness_TickShares :
    (let s := { part .active 0 with trip := { State.reset.trip with fastFill := 1 } }
     s.pw.state = .active ∧ s.trip.fastFill = 1) ∧
    (let s := { part .active 0 with readout := { State.reset.readout with page := .lastTrip, rotCount := 19 } }
     s.readout.page = .lastTrip ∧ s.readout.rotCount = 19 ∧ s.pw.nextTrip ≠ none) ∧
    (∃ e ∈ ((entry (part .active 0) 2 (fun e => { e with mark := some 1000 })).warn.entry (2 : Fin 32).val).toList,
      e.mark = some 1000) ∧
    (∀ day ∈ [0, 65534],
      let s := clockAt (part .standby 0) 23 59 59 day
      s.readout.hour = 23 ∧ s.readout.minute = 59 ∧ s.readout.second = 59 ∧ s.readout.day < 65535) ∧
    (∀ hours ∈ [13998, 13999, 999999],
      engineRunning (engineOn (part .active 0) 359 hours) = true ∧
        (engineOn (part .active 0) 359 hours).service.seconds = 359) ∧
    ((13998 + 1) / 10 = 13998 / 10 ∧ (13999 + 1) / 10 ≠ 13999 / 10) ∧
    ({ State.reset.acc with unknownTimer := some 29 } : Accum).unknownTimer = some 29 := by decide

theorem witness_HeartbeatTick :
    ∀ p ∈ [Power.standby, .active, .crank, .load, .stabilise],
      let s := { part p 0 with peer := { State.reset.peer with generator := some 1#7, rate := 1, count := 9 } }
      s.pw.nextHeart = some 200 ∧ s.peer.generator = some 1#7 ∧ s.pw.state = p ∧ 10 ^ s.peer.rate ≤ s.peer.count + 1 := by
  decide

theorem witness_OneSecondTick :
    (let s := { part .standby 1000 with pw := { (part .standby 1000).pw with keepAlive := some 58 } }
     s.pw.state = .standby ∧ s.pw.returning = false ∧ s.pw.keepAlive = some 58 ∧ 58 + 1 < s.cal.keepAlive ∧
       after .oneSecondTick s (fun u => (keepAwake u, u.pw.keepAlive)) = some (false, some 59)) ∧
    (∃ e ∈ ((part .active 0).warn.entry 8).toList, e.mark = none) ∧
    (∀ day ∈ [0, 65534, 65535],
      let s := clockAt (engineOn (part .standby 1000) 359 13999) 23 59 59 day
      (59 ≤ s.readout.second ∧ 59 ≤ s.readout.minute ∧ 23 ≤ s.readout.hour) ∧ s.pw.role = .front ∧
        s.readout.unset = false ∧ s.line.tx.length < 7 ∧ (360 ≤ s.service.seconds + 1 ∧ s.service.hours < 999999)) := by decide

/-- The tick at which a midnight, a whole hour, and the unknown timeout fall together: the writes and frames of each. -/
theorem witness_OneSecondTick_together :
    (let s := clockAt (engineOn (part .standby 1000) 359 13999) 23 59 59 7
     after .oneSecondTick { s with acc := { s.acc with unknownTimer := some 29, odoUnknown := true } }
       (fun u => (u.pw.queue.map WriteEntry.key, u.line.tx.map TxEntry.kind, u.pw.returning)) =
     some ([.counters, .odometer], [kindClock, kindOdoAnnounce], false)) ∧
    after .oneSecondTick { part .standby 94000 with pw := { (part .standby 94000).pw with keepAlive := some 59 } }
      (fun u => (u.pw.returning, u.pw.keepAlive, u.pw.queue.map WriteEntry.key)) =
    some (true, none, [.trip, .counters, .odometer]) := by decide

theorem witness_FrameRoundTrip :
    (7 < 8 ∧ (List.replicate 6 (255#8)).length ≤ 6) ∧ (0 < 8 ∧ ([] : List Byte).length ≤ 6) := by decide

/-- The part with a number of frames in its inbound queue. -/
def holdingFrames (s : State) (n : Nat) : State :=
  { s with line := { s.line with inbound := List.replicate n (stored 11 5 [] 0) } }

theorem witness_FrameReceive :
    (let s := { part .stabilise 0 with line := { State.reset.line with rx := .waitIdle } }
     s.pw.state ≠ .sleep ∧ [false] ≠ [] ∧ s.line.rx = .waitIdle) ∧
    ((part .load 0).pw.state ≠ .sleep ∧ (part .load 0).line.rx ≠ .waitIdle ∧
      readFrame (warnAckBits.take 19) = .incomplete ∧
      readFrame (warnAckBits.take 10 ++ levels [0, 0, 0, 0, 1, 0, 1, 1, 1, 1]) = .badLength ∧
      readFrame (warnAckBits.take 48 ++ levels [0, 1]) = .bad ∧
      readFrame warnAckBits = .good (stored 4 1 [2#8, 0#8] 0).frame) ∧
    ((holdingFrames (part .load 0) 15).line.inbound.length < 16 ∧
      16 ≤ (holdingFrames (part .load 0) 16).line.inbound.length) := by decide

/-- ODO ANNOUNCE waiting at the head on an idle line. -/
def toSend (kind : BitVec 5) (pause : Option Nat) : State :=
  let s := queued (part .active 540) [waiting kind none [0#8]]
  { s with line := { s.line with pause := pause } }

theorem witness_FrameBegin :
    (∀ x ∈ [((8 : BitVec 5), some 540), (8, none), (4, some 541)],
      let s := toSend x.1 x.2
      s.pw.state = .active ∧ s.line.fault = false ∧ s.line.idle = true ∧ s.line.tx = waiting x.1 none [0#8] :: [] ∧
        (∀ e ∈ s.line.tx, e.sending = false) ∧ (priorityOf x.1 ≤ 3 ∨ ∀ t ∈ x.2, t ≤ s.pw.time)) ∧
    (let own := frameLevels 6 { kind := 8, source := 0, data := [0#8] }
     sendResult own own = .sent ∧
       sendResult own (own.take 9 ++ [false]) = .arbitrationLost ∧
       sendResult own (own.take 19 ++ [false]) = .bitError ∧ own[9]? = some true ∧ own[19]? = some true) := by decide

theorem witness_AttemptEnd :
    (let s := clockSending (part .active 0)
     s.pw.state = .active ∧ (∃ e ∈ (s.line.tx.find? (fun x => x.sending)).toList,
       e.kind ≠ kindStatus ∧ e.attempts + 1 < 3 ∧ e.replacement ≠ none)) ∧
    (∀ n ∈ [1, 2],
      let e := { waiting 4 (some 2) [2#8, 0#8] with sending := true, attempts := n }
      let s := queued (part .crank 0) [e]
      s.pw.state = .crank ∧ s.line.tx.find? (fun x => x.sending) = some e ∧ e.kind ≠ kindStatus ∧
        (n = 1 → e.attempts + 1 < 3) ∧ (n = 2 → 3 ≤ e.attempts + 1)) ∧
    (let e := { waiting 11 none [1#8, 1#8] with sending := true }
     let s := queued (part .standby 0) [e]
     s.pw.state = .standby ∧ s.line.tx.find? (fun x => x.sending) = some e ∧ e.kind = kindStatus) ∧
    kindWarnAck ≠ kindTallyReport := by decide

/-- The part with the parts of a TALLY REPORT sequence that are left, and a snapshot of its sixteen stations. -/
def reporting (parts : List (Nat × Nat)) (tx : List TxEntry) : State :=
  let s := part .active 0
  { s with peer := { s.peer with report := parts, snapshot := ⟨s.peer.stations.map Station.tallies, s.tally⟩ }
           line := { s.line with tx := tx } }

theorem witness_AttemptEnd_report :
    ((reporting [] []).peer.report.length ≤ 1 ∧ (reporting [(16, 4)] []).peer.report.length ≤ 1 ∧
      (reporting [(0, 1), (0, 2)] []).peer.report = (0, 1) :: (0, 2) :: []) ∧
    ((reporting [] []).line.tx.length < 8 ∧
      (∃ x ∈ (reporting [] [waiting kindTallyReport (some 0) []]).line.tx, x.kind = kindTallyReport ∧ x.subject = some 0) ∧
      (let u := reporting [] ((List.range 8).map (fun n => waiting 4 (some n) []))
       8 ≤ u.line.tx.length ∧ ∀ x ∈ u.line.tx, ¬ (x.kind = kindTallyReport ∧ x.subject = some 0))) ∧
    ((0 : Nat) < 16 ∧ (15 : Nat) < 16 ∧ (reporting [] []).peer.snapshot.stations[0]?.isSome = true ∧
      (reporting [] []).peer.snapshot.stations[15]?.isSome = true) := by decide

theorem witness_LineConditions :
    ({ State.reset.line with pause := some 540 } : Line).pause = some 540 ∧
    ((clockSending (part .active 0)).pw.state ≠ .sleep ∧ (clockSending (part .active 0)).line.fault = false) ∧
    ((toSend 8 none).pw.state ≠ .sleep ∧ (toSend 8 none).line.fault = false ∧
      ∀ e ∈ (toSend 8 none).line.tx, e.sending = false) ∧
    (let s := { part .active 0 with line := { State.reset.line with fault := true, rx := .midFrame [false] } }
     s.pw.state ≠ .sleep ∧ s.line.fault = true ∧ s.line.rx = .midFrame [false]) ∧
    ((part .active 0).line.rx = .ready ∧ (part .active 0).pw.state ≠ .sleep ∧
      ({ State.reset.line with rx := .waitIdle } : Line).rx = .waitIdle) := by decide

theorem witness_TransmitRequest :
    (let q := [waiting 4 (some 2) [2#8, 0#8], waiting 11 none [1#8]]
     q.Pairwise (fun x y => priorityOf x.kind ≤ priorityOf y.kind) ∧
       (∃ e ∈ q, e.kind = (4 : BitVec 5) ∧ e.subject = some 2) ∧
       (∀ e ∈ q, ¬ (e.kind = (4 : BitVec 5) ∧ e.subject = some 3)) ∧ q.length < 8) ∧
    (let q := (List.range 8).map (fun n => waiting 4 (some n) [])
     q.Pairwise (fun x y => priorityOf x.kind ≤ priorityOf y.kind) ∧
       (∀ e ∈ q, ¬ (e.kind = (11 : BitVec 5) ∧ e.subject = none)) ∧ 8 ≤ q.length ∧
       (∀ e ∈ q, e.sending = false → priorityOf e.kind ≤ priorityOf (11 : BitVec 5))) ∧
    (let q := (List.range 7).map (fun n => waiting 4 (some n) []) ++ [waiting 11 none []]
     q.Pairwise (fun x y => priorityOf x.kind ≤ priorityOf y.kind) ∧
       (∀ e ∈ q, ¬ (e.kind = (8 : BitVec 5) ∧ e.subject = none)) ∧ 8 ≤ q.length ∧ (q.map TxEntry.key).Nodup ∧
       (∃ e ∈ q, e.sending = false ∧ priorityOf (8 : BitVec 5) < priorityOf e.kind)) := by decide

theorem witness_FramesDiscarded :
    (∀ p ∈ [Power.load, .stabilise, .sleep], (part p 0).pw.state = .load ∨ (part p 0).pw.state = .stabilise ∨
      (part p 0).pw.state = .sleep) ∧
    (∀ k ∈ [(13 : BitVec 5), 15, 0, 17, 31], Takes (got (part .crank 5) k 9 []) (stored k 9 [] 5) k ∧
      (k = 13 ∨ k = 15 ∨ k = 0 ∨ 17 ≤ k.toNat)) ∧
    (let s := got (heard (part .standby 5) 7 0) 5 7 [0#8, 0#8, 0#8]
     Takes s (stored 5 7 [0#8, 0#8, 0#8] 5) 5 ∧ (stored 5 7 [0#8, 0#8, 0#8] 5).frame.data.length < requiredLength .body) ∧
    (let s := got (part .standby 5) 6 7 [0#8, 0#8]
     Takes s (stored 6 7 [0#8, 0#8] 5) 6 ∧ (s.peer.station 7).state = .absent) ∧
    (let s := got (bound (heard (part .active 5) 9 0) .chassis 5 0) 2 9 [0#8, 0#8, 0#8]
     Takes s (stored 2 9 [0#8, 0#8, 0#8] 5) 2 ∧
       requiredLength .chassis ≤ (stored 2 9 [0#8, 0#8, 0#8] 5).frame.data.length ∧ (s.peer.station 9).state ≠ .absent ∧
       (s.sig.hdr .chassis).fresh = .fresh ∧ (s.sig.hdr .chassis).bound ≠ some 9) := by decide

theorem witness_FramesDiscarded_keys :
    (let s := got (part .active 5) 3 9 [1#8, 1#8, 0#8]
     Takes s (stored 3 9 [1#8, 1#8, 0#8] 5) 3 ∧ s.pw.role = .front) ∧
    (let l : KeyRecord := { source := 9, target := 0#8, code := 3#8, arg := 0#8, arrival := 1441 }
     let s := got { onPage .clock with readout := { (onPage .clock).readout with lastKey := some l } } 3 9 [0#8, 3#8, 0#8]
     Takes s (stored 3 9 [0#8, 3#8, 0#8] 1500) 3 ∧ s.readout.lastKey = some l ∧ 1500 < l.arrival + 60) ∧
    (∀ data ∈ [[0#8, 1#8], [0#8, 0#8, 0#8], [0#8, 11#8, 0#8]],
      let f := stored 3 9 data 5
      Takes (got (part .active 5) 3 9 data) f 3 ∧
        (f.frame.data.length < 3 ∨ (f.frame.byte 2).toNat = 0 ∨ 10 < (f.frame.byte 2).toNat)) := by decide

theorem witness_SignalFrameAccepted :
    (∀ x ∈ [(SignalKind.engine, (1 : BitVec 5), [25#8, 0#8, 255#8, 3#8, 0x2C#8, 0xA0#8]), (.chassis, 2, [0#8, 24#8, 0#8]),
            (.body, 5, [0x81#8, 0x80#8, 124#8, 0#8]), (.fuelLevel, 6, [84#8, 0x80#8]), (.fuelLevel, 6, [84#8, 0x7F#8])],
      Takes (got (heard (part .active 5) 3 0) x.2.1 3 x.2.2) (stored x.2.1 3 x.2.2 5) x.2.1 ∧
        requiredLength x.1 ≤ x.2.2.length ∧ ((heard (part .active 5) 3 0).peer.station 3).state ≠ .absent ∧
        ((heard (part .active 5) 3 0).sig.hdr x.1).fresh = .none) ∧
    (let s := got (bound (heard (part .active 5) 3 0) .chassis 3 0) 2 3 [0#8, 24#8, 0#8]
     (s.sig.hdr .chassis).fresh = .fresh ∧ (s.sig.hdr .chassis).bound = some 3) ∧
    (let n : Nat → Byte := fun k => if k = 1 then 84#8 else 0#8
     let data := [84#8, 0#8]
     ∀ m ∈ List.range 4, data[m]? = if m < data.length then some (n (m + 1)) else none) := by decide

theorem witness_Counts :
    (∀ s ∈ [part .active 0], s.acc.distBase = none ∧ s.acc.fuelBase = none) ∧
    (∀ x ∈ [(1023, true), (1024, false)],
      let count : Word := BitVec.ofNat 16 (65530 + x.1)
      (decide ((count - 65530#16).toNat ≤ 1023)) = x.2) ∧
    ((174 + 4 * 1000) / 4971 = 0 ∧ 0 < (174 + 5 * 1000) / 4971 ∧ (chassisRun 65530 174).acc.distBase = some 65530#16) ∧
    (let u := (odometer (chassisRun 65530 174) 45199)
     ({ u with acc := { u.acc with metres := 99, distBase := some 0#16 } } : State).line.tx.length < 8 ∧
       after .chassis (got { u with acc := { u.acc with metres := 99 } } 2 5 [0#8, 24#8, 0#8])
         (fun t => (t.acc.odo, t.acc.metres, t.line.tx.map TxEntry.kind)) = some (45200, 5, [8])) ∧
    (64000 ≤ 63990 + 15 ∧ ¬ 64000 ≤ 63990 + 9 ∧ 999999 < 999998 + 2 ∧ ¬ 999999 < 999998 + 1) := by decide +kernel

theorem witness_WarnAckFrame :
    (Takes (got (part .crank 5) 4 0 [2#8]) (stored 4 0 [2#8] 5) 4 ∧ (stored 4 0 [2#8] 5).frame.data.length < 2) ∧
    (Takes (got (part .active 5) 4 0 [9#8, 0#8]) (stored 4 0 [9#8, 0#8] 5) 4 ∧ (part .active 5).warn.entry 9 = none) ∧
    (Takes (got (part .active 5) 4 0 [32#8, 0#8]) (stored 4 0 [32#8, 0#8] 5) 4 ∧
      (part .active 5).warn.table.length ≤ 32 ∧ 31 < 32) ∧
    (∀ st ∈ [WarnState.quiet, .pending, .active, .acked],
      let s := got (entry (part .standby 5) 2 (fun e => { e with state := st })) 4 0 [2#8, 0x7F#8]
      Takes s (stored 4 0 [2#8, 0x7F#8] 5) 4 ∧ (0x7F#8).getLsbD 7 = false ∧
        ∃ e ∈ (s.warn.entry 2).toList, e.state = st ∧ e.cfg.passAck = false) ∧
    (Takes (got (part .standby 5) 4 0 [2#8, 0x80#8]) (stored 4 0 [2#8, 0x80#8] 5) 4 ∧ (0x80#8).getLsbD 7 = true) := by decide

theorem witness_ServiceResets :
    (Takes (got (part .crank 5) 7 0 [0#8, 0#8, 0#8, 0#8, 0#8]) (stored 7 0 [0#8, 0#8, 0#8, 0#8, 0#8] 5) 7) ∧
    (∀ n ∈ [5, 6],
      let data := [BitVec.ofNat 8 n, 0#8, 0#8, 0#8, 0#8, 0#8]
      Takes (got (part .standby 5) 7 0 data) (stored 7 0 data 5) 7 ∧ 6 ≤ data.length ∧
        (n = 5 → (part .standby 5).service.items[n]? ≠ none) ∧ (n = 6 → 5 < n)) ∧
    (∀ role ∈ [Role.front, .rear],
      let s := got (workshop role 14034) 3 9 [2#8, 9#8, 5#8]
      s.pw.state = .active ∧ Takes s (stored 3 9 [2#8, 9#8, 5#8] 5000) 3 ∧
        3 ≤ (stored 3 9 [2#8, 9#8, 5#8] 5000).frame.data.length ∧ s.readout.lastKey = none ∧
        s.sig.chassisHdr.fresh = .fresh ∧ s.acc.speed = 0 ∧ s.sig.engineHdr.fresh = .fresh ∧ s.sig.engine.speed < 400 ∧
        s.service.items[5]? ≠ none) := by decide

theorem witness_OdoAnnounceFrame :
    (∀ data ∈ [[0#8, 0#8, 0#8], [0#8, 0#8, 0#8, 0x80#8], [0#8, 0#8, 0#8, 0x7F#8]],
      Takes (got (part .active 5) 8 4 data) (stored 8 4 data 5) 8) ∧
    ((0x80#8).getLsbD 7 = true ∧ (0x7F#8).getLsbD 7 = false) ∧
    (let s := { part .active 5 with acc := { State.reset.acc with odoUnknown := true } }
     s.acc.odoUnknown = true) ∧
    (let own := (odometer (part .active 5) 45120).acc.odo
     (odometer (part .active 5) 45120).acc.odoUnknown = false ∧
       (own < 45121 ∧ 45121 ≤ own + 500) ∧ (own < 45620 ∧ 45620 ≤ own + 500) ∧ own + 500 < 45621 ∧ 45120 ≤ own) := by
  decide

theorem witness_ClockAndOptionsFrames :
    (∀ data ∈ [[24#8, 0#8, 0#8, 0#8, 0#8], [0#8, 60#8, 0#8, 0#8, 0#8], [0#8, 0#8, 60#8, 0#8, 0#8], [0#8, 0#8, 0#8, 0#8],
               [23#8, 59#8, 59#8, 0#8, 7#8], [23#8, 59#8, 59#8, 0#8, 6#8], [23#8, 59#8, 59#8, 0#8, 8#8]],
      Takes (got (clockAt (rear (part .standby 5)) 0 0 0 7) 9 4 data) (stored 9 4 data 5) 9 ∧
        (clockAt (rear (part .standby 5)) 0 0 0 7).pw.role = .rear) ∧
    (let s := clockAt (rear (part .standby 5)) 0 1 0 7
     s.readout.minute ≠ 0 ∧ (6 : Nat) ≤ s.readout.day ∧ s.readout.day < 8) ∧
    ((part .active 5).pw.role = .front) ∧
    (∀ data ∈ [[0#8, 0#8, 0#8], [3#8, 0#8, 0#8, 2#8], [0#8, 29#8, 5#8, 0#8], [1#8, 251#8, 4#8, 1#8]],
      Takes (got (part .active 5) 10 7 data) (stored 10 7 data 5) 10 ∧ (part .active 5).pw.optionsTaken = false) := by decide

theorem witness_StatusFrame :
    (Takes (got (part .active 5) 11 0 [1#8]) (stored 11 0 [1#8] 5) 11 ∧ (part .active 5).pw.station = 0 ∧
      (part .active 5).peer.stations.length = 16) ∧
    (Takes (got (part .active 5) 11 5 []) (stored 11 5 [] 5) 11 ∧ (5 : StationNo) ≠ (part .active 5).pw.station) ∧
    (∀ st ∈ [StationState.absent, .hunt, .sync, .slip],
      let s := got (record5 (part .active 5) st 48#7 (List.replicate 16 .mismatch)) 11 5 [97#8]
      Takes s (stored 11 5 [97#8] 5) 11 ∧ s.peer.stations.length = 16 ∧ (s.peer.station 5).state = st ∧
        (s.peer.station 5).window.length ≤ 16 ∧ (s.peer.station 5).hitRun = 0) ∧
    (statusOutcome 48#7 97#7 = .hit ∧ statusOutcome 48#7 66#7 = .miss ∧ statusOutcome 48#7 5#7 = .mismatch ∧
      statusOutcome 0#7 0#7 = .mismatch) := by decide

theorem witness_TallyRequestFrame :
    (let s := got (record5 (part .active 5) .sync 48#7 []) 12 9 [0xF0#8]
     Takes s (stored 12 9 [0xF0#8] 5) 12 ∧ (0xF0#8).toNat % 16 = s.pw.station.toNat ∧ s.peer.report = [] ∧
       s.peer.stations.length ≤ 16 ∧ s.line.tx.length < 8 ∧ ∀ e ∈ s.line.tx, e.kind ≠ kindTallyReport) ∧
    (Takes (got (part .active 5) 12 9 []) (stored 12 9 [] 5) 12) ∧
    (Takes (got (part .active 5) 12 9 [1#8]) (stored 12 9 [1#8] 5) 12 ∧ (1#8).toNat % 16 ≠ 0) := by decide

theorem witness_CalWriteFrame :
    (∀ data ∈ [[0#8, 0#8, 10#8, 0#8], [1#8, 0#8, 10#8, 0#8, 0#8], [0#8, 1#8, 0x7F#8, 0#8, 0#8], [0#8, 1#8, 0x80#8, 0#8, 0#8]],
      Takes (got (part .active 5) 14 9 data) (stored 14 9 data 5) 14) ∧
    (1 * 256 + 0x7F = 383 ∧ 383 < 1 * 256 + 0x80) ∧
    ((part .active 5).acc.speed = 0 ∧ ({ State.reset.acc with speed := 1 } : Accum).speed ≠ 0) ∧
    (let q := (List.range 4).map (fun a => ({ key := .calWord a, data := [0#16] } : WriteEntry))
     4 ≤ calWaiting q ∧ (∀ e ∈ q, e.key ≠ .calWord 4) ∧ ¬ (∀ e ∈ q, e.key ≠ .calWord 3)) := by decide

theorem witness_TestFrames :
    (∀ code ∈ [1, 2, 3, 4],
      let data := [0x50#8, BitVec.ofNat 8 code, 4#8]
      Takes (got (part .standby 5) 16 9 data) (stored 16 9 data 5) 16 ∧ 3 ≤ data.length ∧
        (0x50#8).toNat % 16 = (part .standby 5).pw.station.toNat ∧ (1#8).toNat % 16 ≠ (part .standby 5).pw.station.toNat) ∧
    (∀ data ∈ [[0#8, 1#8], [0#8, 0#8, 0#8], [0#8, 5#8, 0#8]],
      let f := stored 16 9 data 5
      Takes (got (part .crank 5) 16 9 data) f 16 ∧
        (f.frame.data.length < 3 ∨ (f.frame.byte 2).toNat = 0 ∨ 4 < (f.frame.byte 2).toNat)) := by decide

theorem witness_KeysTaken :
    (∀ code ∈ [1, 2, 3, 4, 5, 7, 8, 9, 10], ∀ p ∈ [Power.standby, .active, .crank],
      let data := [2#8, BitVec.ofNat 8 code, 0#8]
      Takes (got (part p 5) 3 9 data) (stored 3 9 data 5) 3 ∧ 3 ≤ data.length ∧ (part p 5).readout.lastKey = none ∧
        (part p 5).pw.role = .front) ∧
    (let l : KeyRecord := { source := 9, target := 2#8, code := 1#8, arg := 0#8, arrival := 1440 }
     ¬ (1500 < l.arrival + 60)) ∧
    (∀ text ∈ textTable, padRight 10 text ≠ (onPage .lastTrip).readout.message) ∧
    ((onPage .lastTrip).readout.page ∈ [Page.avgEconomy, .avgSpeed, .elapsed, .fuelUsed, .lastTrip] ∧
      (onPage .range).readout.page ∉ [Page.avgEconomy, .avgSpeed, .elapsed, .fuelUsed, .lastTrip]) := by decide

theorem witness_PagesAndTripReset :
    (let t : Trip := { State.reset.trip with a := ⟨0, 0, 1⟩ }
     ¬ (t.a.dist = 0 ∧ t.a.fuel = 0 ∧ t.a.elapsed = 0) ∧ (t.b.dist = 0 ∧ t.b.fuel = 0 ∧ t.b.elapsed = 0)) ∧
    (let t : Trip := { State.reset.trip with b := ⟨1, 0, 0⟩ }
     ¬ (t.b.dist = 0 ∧ t.b.fuel = 0 ∧ t.b.elapsed = 0) ∧ (t.a.dist = 0 ∧ t.a.fuel = 0 ∧ t.a.elapsed = 0)) := by decide

theorem witness_AcknowledgeKey :
    (Takes (got (part .crank 5) 3 9 [2#8, 6#8, 0#8]) (stored 3 9 [2#8, 6#8, 0#8] 5) 3 ∧ (part .crank 5).pw.state = .crank ∧
      (part .crank 5).readout.lastKey = none) ∧
    (Takes (got (part .active 5) 3 9 [0#8, 6#8, 0#8]) (stored 3 9 [0#8, 6#8, 0#8] 5) 3 ∧ foremost (part .active 5) = none) ∧
    (let s := rear (entry (part .active 5) 2 (fun e => { e with state := .active }))
     foremost s = some 2 ∧ s.pw.role = .rear ∧ ∃ e ∈ (s.warn.entry 2).toList, e.cfg.passAck = false) ∧
    (∀ s ∈ [entry (part .active 5) 2 (fun e => { e with state := .active }),
            playing (entry (part .standby 5) 2 (fun e => { e with state := .active })) [⟨2, .a⟩] 0 600],
      foremost s = some 2 ∧ s.pw.role = .front ∧ s.pw.state ≠ .crank ∧ (s.warn.entry 2).isSome = true) := by decide

theorem witness_ToneEvents :
    (∀ x ∈ [(true, false), (true, true), (false, false)],
      (clicking x.1 x.2).chime.mode = .click ∧
        (clicking x.1 x.2).chime.click = some { refusal := x.1, start := 1000, second := x.2 }) ∧
    (∀ x ∈ [(Sys2Proof.Machine.Class.a, 0), (.a, 1), (.b, 0), (.b, 4), (.b, 5), (.c, 0)],
      let s := playing (entry (part .active 100) 5 (fun e => { e with state := .active })) [⟨5, x.1⟩, ⟨4, .c⟩] x.2 150
      s.chime.mode = .pattern ∧ s.chime.queue = ⟨5, x.1⟩ :: [⟨4, .c⟩] ∧ s.chime.playing = some 5 ∧
        s.chime.step = some { index := x.2, ends := 150 } ∧
        ∃ w ∈ (s.warn.entry 5).toList, w.cfg.trigger = .level) ∧
    (∃ w ∈ ((edgeActive 0).warn.entry 8).toList, w.cfg.trigger ≠ .level ∧ w.state = .active) := by decide

/-- 6.6.3: the full chime queue. -/
def fullChimes : Chimes :=
  { queue := [⟨20, .a⟩, ⟨21, .a⟩, ⟨22, .b⟩, ⟨23, .b⟩, ⟨24, .b⟩, ⟨25, .c⟩, ⟨26, .c⟩] ++ [⟨27, .c⟩], mode := .pattern,
    playing := some 20, step := some { index := 0, ends := 600 }, click := none }

/-- 6.6.3: the offers of 28 (C), 29 (B) and 30 (A) in turn. -/
theorem test_offer_full :
    (fullChimes.offer 0 28 .c).displaced = true ∧ (fullChimes.offer 0 28 .c).chime = fullChimes ∧
    (fullChimes.offer 0 29 .b).reports = [27] ∧
    ((fullChimes.offer 0 29 .b).chime.offer 0 30 .a).chime.queue =
      [⟨20, .a⟩, ⟨21, .a⟩, ⟨30, .a⟩, ⟨22, .b⟩, ⟨23, .b⟩, ⟨24, .b⟩, ⟨29, .b⟩, ⟨25, .c⟩] := by decide

theorem witness_ChimeOffer :
    (fullChimes.queue.Pairwise (fun x y => x.cls.rank ≤ y.cls.rank) ∧ fullChimes.holds 27 = true ∧
      fullChimes.holds 28 = false ∧ 8 ≤ fullChimes.queue.length ∧
      (∀ x ∈ fullChimes.queue, x.cls.rank ≤ Sys2Proof.Machine.Class.c.rank) ∧
      Sys2Proof.Machine.Class.b.rank < Sys2Proof.Machine.Class.c.rank) ∧
    (∀ cls ∈ [Sys2Proof.Machine.Class.b, .c],
      let c := (playing (part .active 0) [⟨5, cls⟩] 0 150).chime
      c.queue.Pairwise (fun x y => x.cls.rank ≤ y.cls.rank) ∧ c.holds 2 = false ∧ c.queue.length < 8 ∧
        (∀ x ∈ c.queue, Sys2Proof.Machine.Class.a.rank < x.cls.rank) ∧ c.mode = .pattern ∧
        c.queue = ⟨5, cls⟩ :: [] ∧ c.playing = some 5 ∧ ∃ x ∈ c.queue, x.cls.rank ≤ Sys2Proof.Machine.Class.c.rank) ∧
    ((part .active 0).chime.holds 2 = false ∧ (part .active 0).chime.mode ≠ .silent ∧
      (part .active 0).chime.mode ≠ .pattern) ∧
    (let c := { (part .crank 0).chime with queue := [⟨5, .b⟩] }
     c.holds 2 = false ∧ c.queue.length < 8 ∧ (∀ x ∈ c.queue, Sys2Proof.Machine.Class.a.rank < x.cls.rank) ∧
       c.mode = .silent) := by decide

/-- The removals: of a warning not held, of one behind the head, of the head with another behind it, and of the only one. -/
theorem witness_ChimeOffer_removal :
    (let c := (playing (part .active 0) [⟨5, .b⟩, ⟨4, .c⟩] 0 150).chime
     c.holds 2 = false ∧ (c.holds 4 = true ∧ ¬ (c.mode = .pattern ∧ c.playing = some 4)) ∧
       (c.holds 5 = true ∧ c.mode = .pattern ∧ c.playing = some 5 ∧
         c.queue.filter (fun x => x.warning != 5) = ⟨4, .c⟩ :: [])) ∧
    (let c := (playing (part .active 0) [⟨5, .b⟩] 3 600).chime
     c.holds 5 = true ∧ c.mode = .pattern ∧ c.playing = some 5 ∧ c.queue.filter (fun x => x.warning != 5) = []) ∧
    (let c := { (part .crank 0).chime with queue := [⟨5, .b⟩] }
     c.holds 5 = true ∧ ¬ (c.mode = .pattern ∧ c.playing = some 5)) := by decide

theorem witness_Writes :
    (∀ p ∈ [Power.stabilise, .standby, .active, .crank],
      let s := { writesWaiting with pw := { writesWaiting.pw with state := p } }
      s.pw.state = p ∧ s.pw.writing = none ∧
        s.pw.queue.find? (fun x => x.key == .odometer) = some { key := .odometer, data := slotWords 45100 }) ∧
    (let s := { part .standby 0 with pw := { (part .standby 0).pw with queue := [{ key := .service, data := [] }] } }
     s.pw.queue.find? (fun x => x.key == .odometer) = none ∧ s.pw.queue.head? = some { key := .service, data := [] }) ∧
    (∀ j ∈ [({ key := .odometer, base := 510, data := [0#16, 0#16], target := 4 } : WriteJob),
            { key := .calWord 383, base := 383, data := [0#16], target := 0 },
            { key := .trip, base := 425, data := List.replicate 17 0#16, target := 0 }],
      let s := { part .active 0 with pw := { (part .active 0).pw with writing := some j } }
      s.pw.writing = some j ∧ j.base + j.data.length ≤ 512 ∧ memWf s.mem = true ∧ s.line.tx.length < 8) ∧
    (let j : WriteJob := { key := .odometer, base := 511, data := [0#16, 0#16], target := 4 }
     ({ part .active 0 with pw := { (part .active 0).pw with writing := some j } } : State).pw.writing = some j ∧
       512 < j.base + j.data.length) := by decide

theorem witness_SlotValidity :
    slotValid ((loadImage [] 446 []).word (384 + 2 * 7)) ((loadImage [] 446 []).word (384 + 2 * 7 + 1)) = false ∧
    (9999999 : Nat) ≤ 9999999 ∧ slotValid 0x9896#16 0x7F52#16 = true := by decide

theorem witness_LevelFilter :
    let t : Trip := { State.reset.trip with received := true, f := 65280 }
    (t.received = true ∧ (255 : Nat) ≤ 255 ∧ t.f ≤ 65280 ∧ t.fastFill = 0) ∧
    ({ t with fastFill := 30 } : Trip).fastFill ≠ 0 ∧
    State.reset.trip.received = false ∧
    (0 < (255 : Int) * 256 - ((65279 : Nat) : Int) ∧ (0 : Int) * 256 - ((t.f : Nat) : Int) < 0 ∧
      (255 : Int) * 256 - ((t.f : Nat) : Int) = 0) := by decide

theorem witness_AverageEconomy :
    (999 < 1000 ∧ (⟨1000, 0, 0⟩ : TripRecord).dist = 1000 ∧ (⟨1000, 0, 0⟩ : TripRecord).fuel = 0) ∧
    averageEconomy .metric ⟨123456, 14218, 9000⟩ = some 115 ∧ averageEconomy .us ⟨123456, 14218, 9000⟩ = some 204 ∧
    averageEconomy .imperial ⟨123456, 14218, 9000⟩ = some 245 := by decide

theorem witness_Readouts :
    (∀ p ∈ [Power.load, .stabilise, .sleep], (part p 0).pw.state = p) ∧
    ((part .standby 0).pw.state = .standby ∧ (part .standby 0).readout.hour < 24 ∧ (part .standby 0).readout.minute < 60) ∧
    (let s := part .active 0
     s.pw.state = .active ∧ foremost s = none ∧ s.readout.page = .clock ∧ s.readout.odoSel = .odometer ∧
       s.acc.odoUnknown = false ∧ s.pw.units = .metric ∧ s.acc.odo ≤ 9999999) ∧
    (let s := entry (part .crank 0) 2 (fun e => { e with state := .active })
     s.pw.state = .crank ∧ foremost s = some 2 ∧ textTable[2]? ≠ none ∧
       ∃ e ∈ (s.warn.entry 2).toList, e.cfg.text = 2) ∧
    (let s := { part .active 0 with acc := { State.reset.acc with odoUnknown := true } }
     s.readout.odoSel = .odometer ∧ s.acc.odoUnknown = true) := by decide

/-- The FRONT cluster in ACTIVE with no warning, on a page, with records, a tank value and one service item in a state. -/
def showing (p : Page) (item : ServiceState) : State :=
  let s := part .active 0
  { s with
    readout := { State.reset.readout with page := p }
    trip := { State.reset.trip with a := ⟨123456, 14218, 9000⟩, received := true, f := 65280 }
    service := { s.service with items := s.service.items.modify 1 (fun x => { x with state := item }) } }

theorem witness_Readouts_pages :
    (∀ p ∈ [Page.range, .avgEconomy, .currentEconomy, .avgSpeed, .elapsed, .fuelUsed, .lastTrip, .service, .outsideTemp],
      (showing p .ok).pw.state = .active ∧ foremost (showing p .ok) = none ∧ (showing p .ok).readout.page = p ∧
        (showing p .ok).trip.a.elapsed ≤ 359999 ∧ (showing p .ok).trip.a.fuel ≤ 999999 ∧
        (showing p .ok).trip.snapA.dist ≤ 9999999 ∧ (showing p .ok).trip.received = true ∧
        ∀ x ∈ (showing p .ok).service.items, x.state = .ok) ∧
    (let s := showing .service .due
     ∃ x ∈ (s.service.items[1]?).toList, x.state ≠ .ok ∧ (∀ y ∈ s.service.items, y.state.rank ≤ x.state.rank) ∧
       ∀ y ∈ (s.service.items[0]?).toList, y.state ≠ x.state) ∧
    (showing .range .ok).compose.readout.message.length = 10 ∧
    (¬ ((showing .outsideTemp .ok).sig.bodyHdr.fresh = .fresh ∨ (showing .outsideTemp .ok).sig.bodyHdr.fresh = .stale)) ∧
    (let s := bound (showing .outsideTemp .ok) .body 5 0
     s.sig.bodyHdr.fresh = .fresh ∧ -40 ≤ s.sig.body.outside ∧ s.sig.body.outside ≤ 60) := by decide +kernel

/-- R134: OUTSIDE TEMP with no value, and a value of -12 degrees. -/
theorem test_outside :
    (showing .outsideTemp .ok).compose.readout.message = "OUT  ---C ".toList ∧
    (let s := bound (showing .outsideTemp .ok) .body 5 0
     { s with sig := { s.sig with body := { s.sig.body with outside := -12 } } }.compose.readout.message) =
      "OUT  -12C ".toList := by decide +kernel

theorem witness_ItemsRecordsLatches :
    (measureState 300 25 274 = .ok ∧ measureState 300 25 275 = .soon ∧ measureState 300 25 300 = .due ∧
      measureState 300 25 329 = .due ∧ measureState 300 25 330 = .overdue) ∧
    (9999998 + 1 ≤ 9999999 ∧ 9999999 < 9999998 + 2) ∧
    (({ State.reset.trip with received := true } : Trip).received = true ∧ State.reset.trip.received = false) ∧
    ((bound (part .active 0) .engine 3 0).sig.engineHdr.fresh = .fresh ∧ (part .active 0).sig.engineHdr.fresh = .none ∧
      (bound (part .active 0) .chassis 3 0).sig.chassisHdr.fresh = .fresh) := by decide

/-! ## The laws that every step keeps: a state in use that has them, and the step it makes -/

/-- The part in ACTIVE with an ENGINE frame taken, a class A warning that sounds, a frame and a write that wait, and the
end of the pattern's step as the next command. -/
def inUse : State :=
  let s := playing (entry (bound (heard (part .active 500) 3 400) .engine 3 450) 2
    (fun e => { e with state := .active, raise := some 0 })) [⟨2, .a⟩] 0 600
  { s with
    warn := s.warn.refreshLamps
    line := { s.line with tx := [waiting 4 (some 2) [2#8, 0#8], waiting 11 none [1#8, 2#8]]
                          inbound := [stored 11 3 [30#8, 2#8] 400] }
    pw := { s.pw with queue := [{ key := .odometer, data := slotWords 45100 }] }
    acc := { s.acc with odo := 45100, metres := 99, distRes := 4999 }
    gauges := s.gauges.map (fun c => { c with angle := c.cal.fullScale, tick := c.cal.divider - 1, state := .tracking })
    mem := saved
    pending := [.patternStepEnd] }

theorem witness_step_made : ∃ t, step inUse = .next t := ⟨_, rfl⟩

theorem witness_MemoryKept : inUse.memoryLaw := by show memWf inUse.mem = true; decide
theorem witness_LineQueuesKept : inUse.transmitLaw ∧ inUse.inboundLaw := by
  refine ⟨⟨?_, ?_, ?_⟩, ?_⟩
  · decide
  · decide
  · decide
  · show inUse.line.inbound.length ≤ 16; decide
theorem witness_WritesKept : inUse.writeLaw ∧ inUse.writingLaw := by
  refine ⟨⟨?_, ?_, ?_⟩, ?_, ?_, ?_⟩
  · decide
  · decide
  · decide
  · decide
  · intro e he
    have : e = { key := .odometer, data := slotWords 45100 } := List.mem_singleton.1 he
    subst this
    exact (rfl : (slotWords 45100).length = 2)
  · intro j hj
    have : inUse.pw.writing = none := by decide
    exact absurd (this.symm.trans hj) (by simp)
theorem witness_ChimeQueueKept : inUse.chimeLaw ∧ inUse.foremostLaw := by
  refine ⟨⟨?_, ?_, ?_⟩, ?_, ?_⟩
  · decide
  · decide
  · decide
  · decide
  · intro e he
    have : e = ⟨2, .a⟩ := List.mem_singleton.1 he
    subst this
    exact ⟨_, rfl, rfl, rfl, rfl⟩
theorem witness_ToneKept : inUse.toneLaw := by
  refine ⟨?_, ?_, ?_, ?_, ?_⟩ <;> decide
theorem witness_ToneKept_step :
    ∃ t, step inUse = .next t ∧ t.chime.mode = .pattern ∧ ∃ e ∈ t.chime.queue, e.cls = .a :=
  ⟨_, rfl, by decide, by decide⟩
theorem witness_RecordsKept : inUse.tallyLaw ∧ inUse.bindingLaw ∧ inUse.stationLaw := by
  refine ⟨⟨?_, ?_⟩, ?_, ?_⟩
  · unfold OwnTallies.bounded; decide
  · unfold StationTallies.bounded; decide
  · intro k hk
    cases k with
    | engine => exact ⟨3, rfl, by decide⟩
    | chassis => exact absurd hk (by decide)
    | body => exact absurd hk (by decide)
    | fuelLevel => exact absurd hk (by decide)
  · unfold State.stationLaw Station.inRange; decide
theorem witness_RangesKept : inUse.gaugeLaw ∧ inUse.tripLaw ∧ inUse.filterLaw ∧ inUse.clockLaw := by
  refine ⟨?_, ?_, ?_, ?_⟩
  · unfold State.gaugeLaw Channel.inRange; decide
  · unfold State.tripLaw TripRecord.inRange; decide
  · unfold State.filterLaw; decide
  · unfold State.clockLaw; decide
theorem witness_OdometerKept : inUse.odometerLaw ∧ inUse.serviceLaw := by
  refine ⟨?_, ?_⟩
  · unfold State.odometerLaw; decide
  · unfold State.serviceLaw; decide
theorem witness_OdometerKept_falls :
    ∃ t, step { inUse with pending := [.powerOnReset 0 false 0] } = .next t ∧ t.acc.odo < inUse.acc.odo :=
  ⟨_, rfl, by decide⟩
theorem witness_KeepAliveKept : inUse.keepAliveLaw := by unfold State.keepAliveLaw; decide
theorem witness_KeepAliveKept_lamps : inUse.lampLaw := by unfold State.lampLaw; decide

end Sys2Proof.Tests
end

section
/-! PROOFS. A signal frame that the Signal Table accepts (R5 to R12): its bytes, the verdict, the fields of each kind, and
what is handed on to the other blocks. -/

namespace Sys2Proof.Machine

/-! ## Bits and bytes -/

/-- A bit of a byte as a digit of its number (00_scope.md 5.6). -/
theorem bitAt_eq_div_mod (b : Byte) (i : Nat) : bitAt b i = (b.toNat / 2 ^ i % 2 == 1) := by
  simp only [bitAt, BitVec.getLsbD, Nat.testBit_eq_decide_div_mod_eq]
  rfl

/-- Data bytes are counted from 1: where the data are `n 1`, `n 2` and so on, byte `i` is `n i` (R145). -/
theorem Frame.byte_of_data {f : Frame} {n : Nat → Byte}
    (hdata : ∀ m, f.data[m]? = if m < f.data.length then some (n (m + 1)) else none)
    {i : Nat} (hpos : 0 < i) (hi : i ≤ f.data.length) : f.byte i = n i := by
  have hlt : i - 1 < f.data.length := by omega
  have hsucc : i - 1 + 1 = i := by omega
  rw [Frame.byte, List.getD_eq_getElem?_getD, hdata, if_pos hlt, hsucc, Option.getD_some]

/-! ## The verdict -/

/-- The three states in which the Dispatcher takes frames (R1). -/
theorem dispatcherRuns_iff (p : Power) : dispatcherRuns p = true ↔ p = .standby ∨ p = .active ∨ p = .crank := by
  simp [dispatcherRuns, or_assoc]

theorem Freshness.held_iff (f : Freshness) : f.held = true ↔ f = .fresh ∨ f = .stale := by
  simp [Freshness.held]

/-- An entry that is neither FRESH nor STALE is NONE or LOST (R4). -/
theorem Freshness.not_held (f : Freshness) : (!f.held) = (f == .none || f == .lost) := by
  cases f <;> rfl

/-- A frame that is long enough and whose sender is not ABSENT is accepted by an entry that holds no values (R7), and by one
that does where the sender is the bound station (R8). -/
theorem signalVerdict_accept {h : SigHeader} {required : Nat} {f : Frame} (hlen : required ≤ f.data.length)
    (hbound : h.fresh.held = true → h.bound = some f.source) :
    signalVerdict h required false f = .accept (!h.fresh.held) := by
  have hshort : ¬ f.len < required := Nat.not_lt.mpr hlen
  cases hheld : h.fresh.held with
  | false => simp [signalVerdict, hshort, hheld]
  | true => simp [signalVerdict, hshort, hheld, hbound hheld]

/-- A frame accepted: its fields and the new header go into the entry, and the frame is handed over (R7, R8, R11, R12). -/
theorem State.signalFrame_accept {s : State} {k : SignalKind} {f : Stored}
    (hlen : requiredLength k ≤ f.frame.data.length) (hstation : (s.peer.station f.frame.source).state ≠ .absent)
    (hbound : (s.sig.hdr k).fresh.held = true → (s.sig.hdr k).bound = some f.frame.source) :
    let rebound := !(s.sig.hdr k).fresh.held
    s.signalFrame k f =
      (s.setSig ((s.sig.takeFields k f.frame).setHdr k (acceptedHeader f rebound))).handOver k f rebound := by
  have hpresent : s.peer.isAbsent f.frame.source = false := by simpa [Peer.isAbsent] using hstation
  rw [State.signalFrame, hpresent, signalVerdict_accept hlen hbound]

/-- The whole of a signal command whose frame is accepted: the frame leaves the inbound queue and is applied (R1, R2). -/
theorem takeFrame_signalFrame_accept {s : State} {f : Stored} {rest : List Stored} {k : SignalKind} {code : BitVec 5}
    (hrun : dispatcherRuns s.pw.state = true) (hq : s.line.inbound = f :: rest) (hkind : f.frame.kind = code)
    (hlen : requiredLength k ≤ f.frame.data.length) (hstation : (s.peer.station f.frame.source).state ≠ .absent)
    (hbound : (s.sig.hdr k).fresh.held = true → (s.sig.hdr k).bound = some f.frame.source) :
    let rebound := !(s.sig.hdr k).fresh.held
    takeFrame (ofKind code) (fun s f => s.signalFrame k f) s =
      .next (State.finish ((((s.setLine (s.line.take rest)).setSig
        ((s.sig.takeFields k f.frame).setHdr k (acceptedHeader f rebound)))).handOver k f rebound)) := by
  have hofKind : ofKind code f.frame = true := by simp [ofKind, hkind]
  rw [takeFrame_taken hrun hq hofKind,
    State.signalFrame_accept (s := s.setLine (s.line.take rest)) hlen hstation hbound]
  rfl

/-! ## The four commands -/

theorem exec_engine (s : State) :
    exec .engine s = takeFrame (ofKind kindEngine) (fun s f => s.signalFrame .engine f) s := rfl

theorem exec_chassis (s : State) :
    exec .chassis s = takeFrame (ofKind kindChassis) (fun s f => s.signalFrame .chassis f) s := rfl

theorem exec_body (s : State) :
    exec .body s = takeFrame (ofKind kindBody) (fun s f => s.signalFrame .body f) s := rfl

theorem exec_fuelLevel (s : State) :
    exec .fuelLevel s = takeFrame (ofKind kindFuelLevel) (fun s f => s.signalFrame .fuelLevel f) s := rfl

/-! ## The hand-over by kind -/

theorem State.handOver_engine (s : State) (f : Stored) (r : Bool) :
    s.handOver .engine f r = s.fuelCount (f.frame.byte 4 ++ f.frame.byte 5) r := rfl

theorem State.handOver_chassis (s : State) (f : Stored) (r : Bool) :
    s.handOver .chassis f r = s.distanceCount (f.frame.byte 1 ++ f.frame.byte 2) r := rfl

theorem State.handOver_body (s : State) (f : Stored) (r : Bool) : s.handOver .body f r = s := rfl

/-- A faulty sender's value goes nowhere (R12). -/
theorem State.handOver_fuelLevel_fault {s : State} {f : Stored} {r : Bool} (h : bitAt (f.frame.byte 2) 7 = true) :
    s.handOver .fuelLevel f r = s := by
  simp [State.handOver, h]

/-- A good sender value goes to the level filter (R12). -/
theorem State.handOver_fuelLevel_good {s : State} {f : Stored} {r : Bool} (h : bitAt (f.frame.byte 2) 7 = false) :
    s.handOver .fuelLevel f r = s.setTrip (s.trip.senderValue s.pw.state (f.frame.byte 1).toNat) := by
  simp [State.handOver, h]

/-! ## The fields by kind -/

section
variable {f : Frame} {n : Nat → Byte} (hbyte : ∀ i, 0 < i → i ≤ f.data.length → f.byte i = n i)
include hbyte

theorem engineOf_of_bytes (hlen : 6 ≤ f.data.length) :
    engineOf f =
      { speed := (n 1).toNat * 32, coolant := min 150 ((n 2).toNat - 40), oil := (n 3).toNat * 4,
        fuelCount := n 4 ++ n 5, chargeFault := (n 6).toNat / 2 ^ 7 % 2 == 1,
        checkEngine := (n 6).toNat / 2 ^ 6 % 2 == 1, oilSwitch := (n 6).toNat / 2 ^ 5 % 2 == 1 } := by
  simp (disch := omega) only [engineOf, celsius, Frame.word, bitAt_eq_div_mod, hbyte]

theorem chassisOf_of_bytes (hlen : 3 ≤ f.data.length) :
    chassisOf f =
      { distCount := n 1 ++ n 2, fluidLow := (n 3).toNat / 2 ^ 7 % 2 == 1,
        parkingBrake := (n 3).toNat / 2 ^ 6 % 2 == 1, padWear := (n 3).toNat / 2 ^ 5 % 2 == 1 } := by
  simp (disch := omega) only [chassisOf, Frame.word, bitAt_eq_div_mod, hbyte]

theorem bodyOf_of_bytes (hlen : 4 ≤ f.data.length) :
    bodyOf f =
      { door1 := (n 1).toNat / 2 ^ 7 % 2 == 1, door2 := (n 1).toNat / 2 ^ 6 % 2 == 1,
        door3 := (n 1).toNat / 2 ^ 5 % 2 == 1, door4 := (n 1).toNat / 2 ^ 4 % 2 == 1,
        partition := (n 1).toNat / 2 ^ 3 % 2 == 1, headlamp := (n 1).toNat / 2 ^ 2 % 2 == 1,
        bulbOut := (n 1).toNat / 2 ^ 1 % 2 == 1, keyIn := (n 1).toNat / 2 ^ 0 % 2 == 1,
        beltOpen := (n 2).toNat / 2 ^ 7 % 2 == 1, battery := (n 3).toNat, outside := min 60 ((n 4).toNat - 40) } := by
  simp (disch := omega) only [bodyOf, celsius, bitAt_eq_div_mod, hbyte]

end

theorem fuelOf_fault {old : FuelFields} {f : Frame} (h : bitAt (f.byte 2) 7 = true) :
    fuelOf old f = { old with senderFault := true } := by
  simp [fuelOf, h]

theorem fuelOf_good {old : FuelFields} {f : Frame} (h : bitAt (f.byte 2) 7 = false) :
    fuelOf old f = { sender := (f.byte 1).toNat, senderFault := false } := by
  simp [fuelOf, h]

/-! ## The statement -/

/-- Settles O31: each kind is the general acceptance with its own fields and hand-over. -/
theorem signalFrameAccepted : Obligations.SignalFrameAccepted := by
  unfold Obligations.SignalFrameAccepted
  intro s f rest k n hstate hq hdata hlen hstation held hheld rebound header bit taken
  have hrun := (dispatcherRuns_iff _).mpr hstate
  have hbound : (s.sig.hdr k).fresh.held = true → (s.sig.hdr k).bound = some f.frame.source :=
    fun h => hheld ((Freshness.held_iff _).mp h)
  have hrebound : (!(s.sig.hdr k).fresh.held) = rebound := Freshness.not_held _
  have hbyte : ∀ i, 0 < i → i ≤ f.frame.data.length → f.frame.byte i = n i :=
    fun _ => Frame.byte_of_data hdata
  have haccept := fun code hkind =>
    takeFrame_signalFrame_accept (code := code) hrun hq hkind hlen hstation hbound
  simp only [hrebound] at haccept
  refine ⟨?engine, ?chassis, ?body, ?fault, ?good⟩
  case engine =>
    rintro rfl hkind
    have hlen6 : 6 ≤ f.frame.data.length := hlen
    rw [exec_engine, haccept kindEngine hkind, State.handOver_engine, hbyte 4 (by omega) (by omega),
      hbyte 5 (by omega) (by omega), Signals.takeFields, engineOf_of_bytes hbyte hlen6]
    rfl
  case chassis =>
    rintro rfl hkind
    have hlen3 : 3 ≤ f.frame.data.length := hlen
    rw [exec_chassis, haccept kindChassis hkind, State.handOver_chassis, hbyte 1 (by omega) (by omega),
      hbyte 2 (by omega) (by omega), Signals.takeFields, chassisOf_of_bytes hbyte hlen3]
    rfl
  case body =>
    rintro rfl hkind
    have hlen4 : 4 ≤ f.frame.data.length := hlen
    rw [exec_body, haccept kindBody hkind, State.handOver_body, Signals.takeFields, bodyOf_of_bytes hbyte hlen4]
    rfl
  case fault =>
    rintro rfl hkind hbit
    have hlen2 : 2 ≤ f.frame.data.length := hlen
    have hfault : bitAt (f.frame.byte 2) 7 = true := by rwa [hbyte 2 (by omega) hlen2, bitAt_eq_div_mod]
    rw [exec_fuelLevel, haccept kindFuelLevel hkind, State.handOver_fuelLevel_fault hfault, Signals.takeFields,
      fuelOf_fault hfault]
    rfl
  case good =>
    rintro rfl hkind hbit
    have hlen2 : 2 ≤ f.frame.data.length := hlen
    have hgood : bitAt (f.frame.byte 2) 7 = false := by rwa [hbyte 2 (by omega) hlen2, bitAt_eq_div_mod]
    rw [exec_fuelLevel, haccept kindFuelLevel hkind, State.handOver_fuelLevel_good hgood, Signals.takeFields,
      fuelOf_good hgood, hbyte 1 (by omega) (by omega)]
    rfl

end Sys2Proof.Machine
end

section
/-! PROOFS. ODO ANNOUNCE at the Accumulator (R31, R32): which frames are ignored, the peer value a frame carries, the
rows of R31's table, and the whole of an adoption. -/

namespace Sys2Proof.Machine

theorem exec_odoAnnounce (s : State) :
    exec .odoAnnounce s = takeFrame (ofKind kindOdoAnnounce) (fun s f => s.odoFrame f.frame) s := rfl

/-! ## The frame -/

theorem fromBytes_three (a b c : Byte) : fromBytes [a, b, c] = a.toNat * 65536 + b.toNat * 256 + c.toNat := by
  simp only [fromBytes, List.foldl]
  omega

/-- A frame that is short or flagged unknown changes nothing (R31). -/
theorem State.odoFrame_ignored {s : State} {f : Frame} (h : f.data.length < 4 ∨ bitAt (f.byte 4) 7 = true) :
    s.odoFrame f = s := if_pos h

/-- Any other frame hands on the value of its bytes 1 to 3 (R31). -/
theorem State.odoFrame_taken {s : State} {f : Frame} (h : ¬ (f.data.length < 4 ∨ bitAt (f.byte 4) 7 = true)) :
    s.odoFrame f = s.peerOdometer (fromBytes [f.byte 1, f.byte 2, f.byte 3]) := if_neg h

/-! ## The table of R31 -/

section
variable {s : State} {p : Nat}

/-- An unknown odometer adopts the larger of the two values (R31). -/
theorem State.peerOdometer_unknown (h : s.acc.odoUnknown = true) :
    s.peerOdometer p = s.adopt (max s.acc.odo (min p maxOdo)) := if_pos h

/-- A peer value that does not exceed the own odometer is ignored (R31). -/
theorem State.peerOdometer_low (h : s.acc.odoUnknown = false) (hle : min p maxOdo ≤ s.acc.odo) :
    s.peerOdometer p = s := by
  simp [State.peerOdometer, h, hle]

/-- A peer value of up to 500 tenths more is adopted (R31). -/
theorem State.peerOdometer_near (h : s.acc.odoUnknown = false) (hlt : s.acc.odo < min p maxOdo)
    (hle : min p maxOdo ≤ s.acc.odo + 500) : s.peerOdometer p = s.adopt (min p maxOdo) := by
  simp [State.peerOdometer, h, Nat.not_le.mpr hlt, hle]

/-- A peer value of more than 500 tenths more is a disagreement (R32). -/
theorem State.peerOdometer_far (h : s.acc.odoUnknown = false) (hlt : s.acc.odo + 500 < min p maxOdo) :
    s.peerOdometer p = s.disagreement := by
  have hown : ¬ min p maxOdo ≤ s.acc.odo := by omega
  simp [State.peerOdometer, h, hown, Nat.not_le.mpr hlt]

end

/-! ## An adoption -/

/-- The service items after the odometer has taken a value: evaluated if the whole kilometres changed (R121). -/
def adoptedItems (s : State) (value : Nat) : List ServiceItem :=
  if value / 10 = s.acc.odo / 10 then s.service.items
  else s.service.items.map (fun i => i.evaluate value s.readout.day s.service.hours)

/-- All that an adoption does: the odometer with its unknown items, the service items, the write and the announcement
(R31). -/
theorem State.adopt_eq (s : State) (value : Nat) :
    s.adopt value = State.sendFrame
      { s with
        acc := { s.acc with
          odo := value, odoUnknown := false
          unknownTimer := if s.acc.odoUnknown then none else s.acc.unknownTimer
          unknownCond := if s.acc.odoUnknown then false else s.acc.unknownCond }
        service := { s.service with items := adoptedItems s value }
        pw := { s.pw with queue := writeRequest s.pw.queue .odometer (slotWords value) } }
      kindOdoAnnounce none [byteOf value 2, byteOf value 1, byteOf value 0, 0#8] := by
  by_cases hkm : value / 10 = s.acc.odo / 10
  · simp only [State.adopt, State.setAcc_acc, adoptedItems, hkm, ne_eq, not_true_eq_false, if_false, if_true]
    rfl
  · simp only [State.adopt, State.setAcc_acc, adoptedItems, hkm, ne_eq, not_false_eq_true, if_false, if_true]
    rfl

/-! ## The statement -/

/-- Settles O35: the frame is taken, and each row of R31's table is one equation of the Accumulator. -/
theorem odoAnnounceFrame : Obligations.OdoAnnounceFrame := by
  unfold Obligations.OdoAnnounceFrame
  intro s f rest hstate hq hkind peer taken ignored adopts
  have hrun := (dispatcherRuns_iff _).mpr hstate
  have hofKind : ofKind kindOdoAnnounce f.frame = true := by simp [ofKind, hkind, kindOdoAnnounce]
  have htaken : exec .odoAnnounce s = .next (taken.odoFrame f.frame).finish := by
    rw [exec_odoAnnounce, takeFrame_taken hrun hq hofKind]
    rfl
  have hpeer : min (fromBytes [f.frame.byte 1, f.frame.byte 2, f.frame.byte 3]) maxOdo = peer := by
    rw [fromBytes_three]
    exact Nat.min_comm ..
  have hrow (hign : ¬ ignored) : exec .odoAnnounce s =
      .next (taken.peerOdometer (fromBytes [f.frame.byte 1, f.frame.byte 2, f.frame.byte 3])).finish := by
    rw [htaken, State.odoFrame_taken hign]
  refine ⟨?ignored, ?unknown, ?near, ?far, ?low⟩
  case ignored =>
    intro hign
    rw [htaken, State.odoFrame_ignored hign]
  case unknown =>
    intro hign hunknown
    rw [State.peerOdometer_unknown (s := taken) hunknown, hpeer, State.adopt_eq] at hrow
    exact hrow hign
  case near =>
    intro hign hknown hlt hle
    rw [State.peerOdometer_near (s := taken) hknown (by rwa [hpeer]) (by rwa [hpeer]), hpeer, State.adopt_eq] at hrow
    exact hrow hign
  case far =>
    intro hign hknown hlt
    rw [hrow hign, State.peerOdometer_far (s := taken) hknown (by rwa [hpeer])]
    rfl
  case low =>
    intro hign hknown hle
    rw [hrow hign, State.peerOdometer_low (s := taken) hknown (by rwa [hpeer])]

end Sys2Proof.Machine
end

section
/-! PROOFS. The odometer slots of the serial memory (R26): the value and the check byte of two words, a new memory, and
the words of a written slot read back. -/

namespace Sys2Proof.Machine

theorem byteOf_toNat (n k : Nat) : (byteOf n k).toNat = n / 256 ^ k % 256 := by
  simp [byteOf]

/-- The check byte as a number (R26). -/
theorem slotCheck_toNat (v : Nat) :
    (slotCheck v).toNat = 255 - (v / 65536 % 256 + v / 256 % 256 + v % 256) % 256 := by
  simp only [slotCheck, BitVec.toNat_sub, BitVec.toNat_add, byteOf_toNat, BitVec.toNat_ofNat]
  omega

/-- The test of a slot's two words in numbers (R26). -/
theorem slotValid_iff (w0 w1 : Word) :
    slotValid w0 w1 = true ↔
      w1.toNat % 256 = (slotCheck (slotValue w0 w1)).toNat ∧ slotValue w0 w1 ≤ 9999999 := by
  simp [slotValid, ← BitVec.toNat_inj]

theorem slotValue_eq_bytes (w0 w1 : Word) :
    slotValue w0 w1 = w0.toNat / 256 * 65536 + w0.toNat % 256 * 256 + w1.toNat / 256 := by
  rw [slotValue]
  omega

/-- The check byte that the value of two words calls for, from their three value bytes (R26). -/
theorem slotCheck_slotValue (w0 w1 : Word) :
    (slotCheck (slotValue w0 w1)).toNat =
      255 - (w0.toNat / 256 + w0.toNat % 256 + w1.toNat / 256) % 256 := by
  have hw0 := w0.isLt
  have hw1 := w1.isLt
  have hhigh : slotValue w0 w1 / 65536 % 256 = w0.toNat / 256 := by rw [slotValue]; omega
  have hmiddle : slotValue w0 w1 / 256 % 256 = w0.toNat % 256 := by rw [slotValue]; omega
  have hlow : slotValue w0 w1 % 256 = w1.toNat / 256 := by rw [slotValue]; omega
  rw [slotCheck_toNat, hhigh, hmiddle, hlow]

/-- An invalid slot's value is not used (R26). -/
theorem slotOf_eq_none {i : Image} {n : Nat}
    (h : slotValid (i.word (384 + 2 * n)) (i.word (384 + 2 * n + 1)) = false) : slotOf i n = none := by
  simp [slotOf, odometerBase, h]

/-- Every word of a new memory reads as FFFFH (log 9). -/
theorem Image.word_new (read a : Nat) : ({ read := read, mem := [], silent := [] } : Image).word a = 0xFFFF#16 := rfl

/-- Two words at FFFFH would need the check byte 2 (R26). -/
theorem slotValid_blank : slotValid 0xFFFF#16 0xFFFF#16 = false := by decide

/-! ## A written slot -/

/-- The second word of a written slot: the lowest value byte above the check byte (R177). -/
theorem slotWords_second_toNat (v : Nat) :
    (byteOf v 0 ++ slotCheck v).toNat = v % 256 * 256 + (slotCheck v).toNat := by
  rw [BitVec.toNat_append, ← Nat.shiftLeft_add_eq_or_of_lt (slotCheck v).isLt, Nat.shiftLeft_eq, byteOf_toNat,
    Nat.pow_zero, Nat.div_one]

section
variable {v : Nat} (hv : v ≤ 9999999)
include hv

/-- The value of a written slot is read back (R26). -/
theorem slotValue_slotWords : slotValue (BitVec.ofNat 16 (v / 256)) (byteOf v 0 ++ slotCheck v) = v := by
  have hcheck := (slotCheck v).isLt
  rw [slotValue, slotWords_second_toNat, BitVec.toNat_ofNat]
  omega

/-- A written slot is valid (R26). -/
theorem slotValid_slotWords : slotValid (BitVec.ofNat 16 (v / 256)) (byteOf v 0 ++ slotCheck v) = true := by
  have hcheck := (slotCheck v).isLt
  rw [slotValid_iff, slotValue_slotWords hv, slotWords_second_toNat]
  exact ⟨by omega, hv⟩

end

/-! ## The statement -/

/-- Settles O47: the tests of a slot in its bytes, the blank slots, and a written slot read back. -/
theorem slotValidity : Obligations.SlotValidity := by
  unfold Obligations.SlotValidity
  refine ⟨?tests, fun _ _ => slotOf_eq_none, by decide, slotValid_blank, ?newMemory, by decide, by decide, ?written⟩
  case tests =>
    intro w0 w1 b2 b1 b0
    rw [slotValid_iff, slotCheck_slotValue, slotValue_eq_bytes]
    exact ⟨Iff.rfl, rfl⟩
  case newMemory =>
    intro read n
    exact slotOf_eq_none (by rw [Image.word_new, Image.word_new, slotValid_blank])
  case written =>
    intro v hv
    exact ⟨_, _, rfl, slotValid_slotWords hv, slotValue_slotWords hv⟩

end Sys2Proof.Machine
end

section
/-! PROOFS. A new distance count and a new fuel count (R19 to R22, R25, R35, R46, R47): what a count gives against its
baseline, the whole metres at the odometer, and the metres and millilitres at the trips and the range window. -/

namespace Sys2Proof.Machine

/-! ## A count against its baseline (R19) -/

section
variable {baseline : Option Word} {b count : Word} {rebound : Bool}

theorem countResult_rebase (h : rebound = true ∨ baseline = none) : countResult baseline count rebound = .rebase := by
  rcases h with rfl | rfl
  · rfl
  · cases rebound <;> rfl

theorem countResult_gap (h : 1023 < (count - b).toNat) : countResult (some b) count false = .gap :=
  if_neg (Nat.not_le.mpr h)

theorem countResult_delta (h : (count - b).toNat ≤ 1023) :
    countResult (some b) count false = .delta (count - b).toNat := if_pos h

end

/-! ## Metres and millilitres at the Trip Computer (R35, R46, R47) -/

/-- Whole metres go to both records and to the range window, and leave the level filter (R35, R46). -/
theorem Trip.addMetres_spec (t : Trip) (m : Nat) :
    let u := t.addMetres m
    (u.a, u.snapA) = recordAdd t.a t.snapA m 0 0 ∧ (u.b, u.snapB) = recordAdd t.b t.snapB m 0 0 ∧
    (u.winDist, u.winFuel) =
      (if 64000 ≤ t.winDist + m then ((t.winDist + m) / 2, t.winFuel / 2) else (t.winDist + m, t.winFuel)) ∧
    u.f = t.f ∧ u.received = t.received ∧ u.fastFill = t.fastFill := by
  by_cases hfull : 64000 ≤ t.winDist + m <;>
    simp [Trip.addMetres, Trip.add, Trip.windowMetres, Trip.halve, hfull]

/-- Whole millilitres go to both records and to the range window, and leave the level filter (R35, R47). -/
theorem Trip.addMillilitres_spec (t : Trip) (ml : Nat) :
    let u := t.addMillilitres ml
    (u.a, u.snapA) = recordAdd t.a t.snapA 0 ml 0 ∧ (u.b, u.snapB) = recordAdd t.b t.snapB 0 ml 0 ∧
    (u.winDist, u.winFuel) =
      (if 999999 < t.winFuel + ml then (t.winDist / 2, t.winFuel / 2 + ml) else (t.winDist, t.winFuel + ml)) ∧
    u.f = t.f ∧ u.received = t.received ∧ u.fastFill = t.fastFill := by
  by_cases hfull : 999999 < t.winFuel + ml <;>
    simp [Trip.addMillilitres, Trip.add, Trip.windowMillilitres, Trip.halve, maxFuel, hfull]

/-! ## The odometer (R25) -/

/-- A frame asked for at a queue with room enters by the request alone (R153). -/
theorem State.sendFrame_tx {s : State} {kind : BitVec 5} {subject : Option Nat} {data : List Byte}
    (hroom : s.line.tx.length < 8) :
    (s.sendFrame kind subject data).line.tx = (txRequest s.line.tx kind subject data).queue := by
  rcases txRequest_cases s.line.tx kind subject data with ⟨-, h⟩ | ⟨-, -, h⟩ | ⟨-, hfull, -⟩ | ⟨-, hfull, -⟩
  · simp [State.sendFrame, State.queueFrame, h]
  · simp [State.sendFrame, State.queueFrame, h]
  · omega
  · omega

/-- An announcement at a queue with room is the request for its frame (R30). -/
theorem State.announce_tx {s : State} (hroom : s.line.tx.length < 8) :
    s.announce.line.tx = (txRequest s.line.tx kindOdoAnnounce none (announceData s.acc)).queue :=
  State.sendFrame_tx hroom

/-- A request to write the odometer, unless it is unknown (R28, R29). -/
theorem State.requestOdometer_queue (s : State) :
    s.requestOdometer.pw.queue =
      if s.acc.odoUnknown then s.pw.queue else writeRequest s.pw.queue .odometer (slotWords s.acc.odo) := by
  unfold State.requestOdometer
  split <;> rfl

section
variable (s : State) (m : Nat)

theorem State.countOdometer_acc : (s.countOdometer m).acc = s.acc.countMetres m := by
  unfold State.countOdometer
  dsimp only
  (repeat' split) <;> simp

/-- Within one kilometre nothing is written and no item is evaluated (R25). -/
theorem State.countOdometer_sameKm (h : (s.acc.countMetres m).odo / 10 = s.acc.odo / 10) :
    (s.countOdometer m).pw = s.pw ∧ (s.countOdometer m).service = s.service := by
  simp only [State.countOdometer, State.setAcc_acc, h, ne_eq, not_true_eq_false, if_false]
  split <;> simp

/-- A new whole kilometre requests a slot write and evaluates the items (R25, R121). -/
theorem State.countOdometer_newKm (h : (s.acc.countMetres m).odo / 10 ≠ s.acc.odo / 10) :
    (s.countOdometer m).pw.queue =
        (if s.acc.odoUnknown then s.pw.queue
         else writeRequest s.pw.queue .odometer (slotWords (s.acc.countMetres m).odo)) ∧
      (s.countOdometer m).service.items = s.service.items.map (fun i =>
        i.evaluate (s.acc.countMetres m).odo s.readout.day s.service.hours) := by
  have hitems (u : State) : u.evaluateItems.service.items =
      u.service.items.map (fun i => i.evaluate u.acc.odo u.readout.day u.service.hours) := rfl
  simp only [State.countOdometer, State.setAcc_acc, h, ne_eq, not_false_eq_true, if_true]
  split <;> simp [State.requestOdometer_queue, hitems] <;> rfl

/-- Within ten kilometres nothing is announced (R25). -/
theorem State.countOdometer_sameTen (h : (s.acc.countMetres m).odo / 100 = s.acc.odo / 100) :
    (s.countOdometer m).line = s.line := by
  by_cases hkm : (s.acc.countMetres m).odo / 10 = s.acc.odo / 10 <;> simp [State.countOdometer, hkm, h]

/-- A new ten kilometres queues an announcement (R25, R30). -/
theorem State.countOdometer_newTen (h : (s.acc.countMetres m).odo / 100 ≠ s.acc.odo / 100)
    (hroom : s.line.tx.length < 8) :
    (s.countOdometer m).line.tx =
      (txRequest s.line.tx kindOdoAnnounce none (announceData (s.acc.countMetres m))).queue := by
  by_cases hkm : (s.acc.countMetres m).odo / 10 = s.acc.odo / 10
  · simp [State.countOdometer, hkm, h, State.announce_tx (s := s.setAcc (s.acc.countMetres m)) hroom]
  · have hroom' : (s.setAcc (s.acc.countMetres m)).requestOdometer.evaluateItems.line.tx.length < 8 := by simpa
    simp [State.countOdometer, hkm, h, State.announce_tx hroom']

end

/-! ## A distance count (R19 to R21) -/

/-- The Accumulator after a distance delta, its whole metres not yet counted (R20, R21). -/
def Accum.takeDistance (a : Accum) (count : Word) (d kDist : Nat) : Accum :=
  { a with distBase := some count, fillDist := fillAdd a.fillDist d, distRes := (a.distRes + d * 1000) % kDist }

/-- The state after a distance delta whose whole metres have gone to the trips and the window, and not yet to the odometer
(R21). `distanceDelta_metres` ties it to the model. -/
def State.takeDistance (s : State) (count : Word) (d m : Nat) : State :=
  (s.setAcc (s.acc.takeDistance count d s.cal.kDist)).setTrip (s.trip.addMetres m)

section
variable {s : State} {count b : Word} {rebound : Bool}

theorem State.distanceCount_rebase (h : rebound = true ∨ s.acc.distBase = none) :
    s.distanceCount count rebound = s.setAcc { s.acc with distBase := some count } := by
  simp only [State.distanceCount, countResult_rebase h]

theorem State.distanceCount_gap (hb : s.acc.distBase = some b) (h : 1023 < (count - b).toNat) :
    s.distanceCount count false = (s.setAcc { s.acc with distBase := some count }).setTally
      { s.tally with distanceGaps := bump16 s.tally.distanceGaps } := by
  simp only [State.distanceCount, hb, countResult_gap h]
  rfl

theorem State.distanceCount_delta (hb : s.acc.distBase = some b) (h : (count - b).toNat ≤ 1023) :
    s.distanceCount count false =
      (s.setAcc { s.acc with distBase := some count }).distanceDelta (count - b).toNat := by
  simp only [State.distanceCount, hb, countResult_delta h]

/-- A delta of less than a metre with the residue changes the Accumulator alone (R21). -/
theorem State.distanceDelta_none {d : Nat} (h : (s.acc.distRes + d * 1000) / s.cal.kDist = 0) :
    (s.setAcc { s.acc with distBase := some count }).distanceDelta d =
      s.setAcc (s.acc.takeDistance count d s.cal.kDist) := if_pos h

/-- The whole metres of a delta go in equal number to the trips with the window and to the odometer's count (R21). -/
theorem State.distanceDelta_metres {d : Nat} (h : 0 < (s.acc.distRes + d * 1000) / s.cal.kDist) :
    (s.setAcc { s.acc with distBase := some count }).distanceDelta d =
      (s.takeDistance count d ((s.acc.distRes + d * 1000) / s.cal.kDist)).countOdometer
        ((s.acc.distRes + d * 1000) / s.cal.kDist) := if_neg h.ne'

end

/-! ## A fuel count (R19, R20, R22) -/

/-- The Accumulator after a fuel delta (R20, R22). -/
def Accum.takeFuel (a : Accum) (count : Word) (d kFuel : Nat) : Accum :=
  { a with fuelBase := some count, fillFuel := fillAdd a.fillFuel d, fuelRes := (a.fuelRes + d * 1000) % kFuel }

section
variable {s : State} {count b : Word} {rebound : Bool}

theorem State.fuelCount_rebase (h : rebound = true ∨ s.acc.fuelBase = none) :
    s.fuelCount count rebound = s.setAcc { s.acc with fuelBase := some count } := by
  simp only [State.fuelCount, countResult_rebase h]

theorem State.fuelCount_gap (hb : s.acc.fuelBase = some b) (h : 1023 < (count - b).toNat) :
    s.fuelCount count false = (s.setAcc { s.acc with fuelBase := some count }).setTally
      { s.tally with fuelGaps := bump16 s.tally.fuelGaps } := by
  simp only [State.fuelCount, hb, countResult_gap h]
  rfl

theorem State.fuelCount_delta (hb : s.acc.fuelBase = some b) (h : (count - b).toNat ≤ 1023) :
    s.fuelCount count false = (s.setAcc { s.acc with fuelBase := some count }).fuelDelta (count - b).toNat := by
  simp only [State.fuelCount, hb, countResult_delta h]

/-- A delta of less than a millilitre with the residue changes the Accumulator alone (R22). -/
theorem State.fuelDelta_none {d : Nat} (h : (s.acc.fuelRes + d * 1000) / s.cal.kFuel = 0) :
    (s.setAcc { s.acc with fuelBase := some count }).fuelDelta d =
      s.setAcc (s.acc.takeFuel count d s.cal.kFuel) := if_pos h

/-- The whole millilitres of a delta go to the trips with the window alone (R22). -/
theorem State.fuelDelta_millilitres {d : Nat} (h : 0 < (s.acc.fuelRes + d * 1000) / s.cal.kFuel) :
    (s.setAcc { s.acc with fuelBase := some count }).fuelDelta d =
      (s.setAcc (s.acc.takeFuel count d s.cal.kFuel)).setTrip
        (s.trip.addMillilitres ((s.acc.fuelRes + d * 1000) / s.cal.kFuel)) := if_neg h.ne'

end

/-! ## The statement -/

/-- Settles O32: for each count the rebase, the gap, the delta without a whole unit and the delta with some. -/
theorem counts : Obligations.Counts := by
  unfold Obligations.Counts
  constructor
  · intro s count rebound based
    refine ⟨State.distanceCount_rebase, ?gap, ?delta⟩
    case gap =>
      rintro b rfl hb hgap
      exact State.distanceCount_gap hb hgap
    case delta =>
      rintro b rfl hb hle d m u
      have hdelta : u = _ := State.distanceCount_delta hb hle
      rcases Nat.eq_zero_or_pos m with hm | hm
      · rw [hdelta, State.distanceDelta_none hm]
        exact ⟨rfl, rfl, rfl, fun _ => ⟨rfl, rfl, rfl, rfl, rfl⟩, fun h => absurd hm h.ne',
          rfl, rfl, rfl, rfl, rfl, rfl, rfl, rfl, rfl, rfl, rfl⟩
      · have hu : u = (s.takeDistance count d m).countOdometer m := hdelta.trans (State.distanceDelta_metres hm)
        have hacc : u.acc = (s.acc.takeDistance count d s.cal.kDist).countMetres m := by
          rw [hu, State.countOdometer_acc]
          rfl
        have htrip : u.trip = s.trip.addMetres m := by simp [hu, State.takeDistance]
        obtain ⟨hrecordA, hrecordB, hwindow, hfilter, hreceived, hfill⟩ := Trip.addMetres_spec s.trip m
        rw [htrip, hacc]
        refine ⟨rfl, rfl, rfl, fun h => absurd h hm.ne', fun _ => ⟨rfl, rfl, hrecordA, hrecordB, hwindow, hfilter,
          hreceived, hfill, ?boundaries⟩, rfl, rfl, rfl, rfl, rfl, ?unchanged⟩
        case boundaries =>
          rw [hu]
          exact ⟨State.countOdometer_sameKm (s.takeDistance count d m) m,
            State.countOdometer_newKm (s.takeDistance count d m) m,
            State.countOdometer_sameTen (s.takeDistance count d m) m,
            State.countOdometer_newTen (s.takeDistance count d m) m⟩
        case unchanged => simp [hu, State.takeDistance]
  · intro s count rebound based
    refine ⟨State.fuelCount_rebase, ?gap, ?delta⟩
    case gap =>
      rintro b rfl hb hgap
      exact State.fuelCount_gap hb hgap
    case delta =>
      rintro b rfl hb hle d ml
      rw [State.fuelCount_delta hb hle]
      rcases Nat.eq_zero_or_pos ml with hml | hml
      · rw [State.fuelDelta_none hml]
        exact ⟨s.trip, rfl, fun _ => rfl, fun h => absurd hml h.ne'⟩
      · rw [State.fuelDelta_millilitres hml]
        exact ⟨_, rfl, fun h => absurd h hml.ne', fun _ => Trip.addMillilitres_spec ..⟩

end Sys2Proof.Machine
end

section
/-! PROOFS. A sender value at the level filter (R39 to R41): the one signed step of R40, its bounds and its direction. -/

namespace Sys2Proof.Machine

/-! ## The step -/

/-- The signed step for a difference: a sixteenth truncated toward zero, or one toward the value where that is 0 (R40).
`filterStep_eq` ties it to the model. -/
def signedStep (diff : Int) : Int := if diff.tdiv 16 = 0 then diff.sign else diff.tdiv 16

theorem signedStep_zero : signedStep 0 = 0 := rfl

/-- The step is the same in both directions (R40). -/
theorem signedStep_neg (diff : Int) : signedStep (-diff) = -signedStep diff := by
  simp only [signedStep, Int.neg_tdiv, Int.sign_neg, neg_eq_zero]
  split <;> rfl

/-- Toward a larger value (R40). -/
theorem signedStep_natCast {n : Nat} (h : 0 < n) : signedStep n = (max 1 (n / 16) : Nat) := by
  have hdiv : (n : Int).tdiv 16 = (n / 16 : Nat) := (Int.ofNat_tdiv n 16).symm
  have hsign : (n : Int).sign = 1 := Int.sign_eq_one_of_pos (by omega)
  rw [signedStep, hdiv, hsign]
  split <;> omega

/-- A step toward a larger value moves, and not past it (R40). -/
theorem signedStep_bounds {diff : Int} (h : 0 < diff) : 0 < signedStep diff ∧ signedStep diff ≤ diff := by
  obtain ⟨n, rfl⟩ := Int.eq_ofNat_of_zero_le h.le
  rw [signedStep_natCast (by omega)]
  omega

/-- A step toward a smaller value moves, and not past it (R40). -/
theorem signedStep_bounds_neg {diff : Int} (h : diff < 0) : signedStep diff < 0 ∧ diff ≤ signedStep diff := by
  have hneg := signedStep_neg diff
  have := signedStep_bounds (diff := -diff) (by omega)
  omega

/-- The filter's next value is the value in force with the signed step added (R40). -/
theorem filterStep_eq (f s : Nat) : (filterStep f s : Int) = f + signedStep ((s : Int) * 256 - f) := by
  unfold filterStep
  rcases Nat.lt_trichotomy f (s * 256) with hup | hequal | hdown
  · have hdiff : (s : Int) * 256 - f = (s * 256 - f : Nat) := by omega
    rw [hdiff, signedStep_natCast (by omega), if_pos hup]
    omega
  · have hdiff : (s : Int) * 256 - f = 0 := by omega
    simp [hdiff, signedStep_zero, ← hequal]
  · have hdiff : (s : Int) * 256 - f = -(f - s * 256 : Nat) := by omega
    rw [hdiff, signedStep_neg, signedStep_natCast (by omega), if_neg (by omega), if_pos hdown]
    omega

/-! ## The sender value -/

section
variable {t : Trip} {p : Power} {s : Nat}

/-- The first value is taken in any state (R39). -/
theorem Trip.senderValue_first (h : t.received = false) :
    t.senderValue p s = { t with f := s * 256, received := true } := by
  simp [Trip.senderValue, h]

/-- During the fast fill a value is taken directly (R41). -/
theorem Trip.senderValue_fastFill (h : t.received = true) (hfill : t.fastFill ≠ 0) :
    t.senderValue .active s = { t with f := s * 256 } := by
  simp [Trip.senderValue, h, hfill]

/-- After the fast fill a value makes one step (R40). -/
theorem Trip.senderValue_step (h : t.received = true) (hfill : t.fastFill = 0) :
    t.senderValue .active s = { t with f := filterStep t.f s } := by
  simp [Trip.senderValue, h, hfill]

/-- Outside ACTIVE a later value is not taken (R40). -/
theorem Trip.senderValue_ignored (h : t.received = true) (hp : p ≠ .active) : t.senderValue p s = t := by
  simp [Trip.senderValue, h, hp]

end

/-- Settles O48: the rows of R39 to R41, and the bounds of the step from those of the signed step. -/
theorem levelFilter : Obligations.LevelFilter := by
  unfold Obligations.LevelFilter
  refine ⟨fun _ _ _ => Trip.senderValue_first, fun t p s hrec hs hf => ⟨?fill, ?step, ?other⟩⟩
  case fill =>
    rintro rfl hfill
    exact Trip.senderValue_fastFill hrec hfill
  case step =>
    rintro rfl hfill diff step
    have hnext : (filterStep t.f s : Int) = t.f + step := filterStep_eq t.f s
    have hzero : diff = 0 → step = 0 := fun h => by rw [show step = signedStep diff from rfl, h, signedStep_zero]
    have hup : 0 < diff → 0 < step ∧ step ≤ diff := signedStep_bounds
    have hdown : diff < 0 → step < 0 ∧ diff ≤ step := signedStep_bounds_neg
    have hdiff : diff = (s : Int) * 256 - t.f := rfl
    refine ⟨_, Trip.senderValue_step hrec hfill, hnext, ?_⟩
    clear_value diff step
    omega
  case other =>
    rintro (rfl | rfl) <;> exact Trip.senderValue_ignored hrec (by decide)

end Sys2Proof.Machine
end

section
/-! PROOFS. The average economy of a trip record (R51, R52): when it is available, its figure in each unit system, and its
clamp. -/

namespace Sys2Proof.Machine

section
variable {r : TripRecord}

/-- Below 1,000 m there is no average economy (R51). -/
theorem averageEconomy_short {u : Units} (h : r.dist < 1000) : averageEconomy u r = none := if_pos h

/-- The metric figure (R51). -/
theorem averageEconomy_metric (h : 1000 ≤ r.dist) :
    averageEconomy .metric r = some (min 999 (roundHalfUp (r.fuel * 1000) r.dist)) := by
  rw [averageEconomy, if_neg (Nat.not_lt.mpr h), if_pos rfl]

/-- A mile figure of a trip without fuel (R52). -/
theorem averageEconomy_noFuel {u : Units} (hu : u ≠ .metric) (h : 1000 ≤ r.dist) (hf : r.fuel = 0) :
    averageEconomy u r = some 999 := by
  rw [averageEconomy, if_neg (Nat.not_lt.mpr h), if_neg hu, if_pos hf]

/-- A mile figure of a trip with fuel (R52). -/
theorem averageEconomy_mpg {u : Units} (hu : u ≠ .metric) (h : 1000 ≤ r.dist) (hf : r.fuel ≠ 0) :
    averageEconomy u r = some (min 999 (roundHalfUp (r.dist * mpgConstant u) (r.fuel * 1000))) := by
  rw [averageEconomy, if_neg (Nat.not_lt.mpr h), if_neg hu, if_neg hf]

/-- Every figure lies within 99.9 (R51, R52). -/
theorem averageEconomy_le {u : Units} {x : Nat} (h : averageEconomy u r = some x) : x ≤ 999 := by
  rcases Nat.lt_or_ge r.dist 1000 with hd | hd
  · simp [averageEconomy_short hd] at h
  by_cases hu : u = .metric
  · subst hu
    rw [averageEconomy_metric hd] at h
    exact Option.some.inj h ▸ Nat.min_le_left ..
  by_cases hf : r.fuel = 0
  · rw [averageEconomy_noFuel hu hd hf] at h
    exact (Option.some.inj h).ge
  · rw [averageEconomy_mpg hu hd hf] at h
    exact Option.some.inj h ▸ Nat.min_le_left ..

end

/-- The two mile systems and their constants (R52). -/
theorem mpgConstant_eq {u : Units} {c : Nat} (h : u = .us ∧ c = 23521 ∨ u = .imperial ∧ c = 28248) :
    u ≠ .metric ∧ mpgConstant u = c := by
  rcases h with ⟨rfl, rfl⟩ | ⟨rfl, rfl⟩ <;> exact ⟨by decide, rfl⟩

/-- Settles O49: one equation for each row of R51 and R52. -/
theorem averageEconomy_spec : Obligations.AverageEconomy := by
  unfold Obligations.AverageEconomy
  intro r
  refine ⟨fun _ => averageEconomy_short, averageEconomy_metric, ?metricNoFuel, ?miles, fun _ _ => averageEconomy_le⟩
  case metricNoFuel =>
    intro hd hf
    have hround : (0 * 1000 * 2 + r.dist) / (2 * r.dist) = 0 := Nat.div_eq_of_lt (by omega)
    rw [averageEconomy_metric hd, hf, roundHalfUp, hround, Nat.min_zero]
  case miles =>
    intro u c huc hd
    obtain ⟨hu, hc⟩ := mpgConstant_eq huc
    refine ⟨averageEconomy_noFuel hu hd, fun hf => ?_⟩
    rw [averageEconomy_mpg hu hd hf, hc, roundHalfUp, Nat.mul_assoc 2]

end Sys2Proof.Machine
end

section
/-! PROOFS. CLOCK at the Readout Driver (R143): which frames are ignored, and the time taken with and without a day step.
OPTIONS at Power and Timebase (R180): its codes and clamps, and the one frame that is taken. -/

namespace Sys2Proof.Machine

/-- The whole of a command that takes the frames of one kind: the frame leaves the inbound queue and is applied (R1, R2). -/
theorem takeFrame_ofKind {k : BitVec 5} {app : State → Stored → State} {s : State} {f : Stored} {rest : List Stored}
    (hstate : s.pw.state = .standby ∨ s.pw.state = .active ∨ s.pw.state = .crank) (hq : s.line.inbound = f :: rest)
    (hkind : f.frame.kind = k) :
    takeFrame (ofKind k) app s = .next (app (s.setLine (s.line.take rest)) f).finish :=
  takeFrame_taken ((dispatcherRuns_iff _).mpr hstate) hq (by simp [ofKind, hkind])

theorem exec_clock (s : State) : exec .clock s = takeFrame (ofKind kindClock) (fun s f => s.clockFrame f.frame) s := rfl

theorem exec_options (s : State) :
    exec .options s = takeFrame (ofKind kindOptions) (fun s f => s.optionsFrame f.frame) s := rfl

/-! ## CLOCK: the frame -/

theorem fromBytes_two (a b : Byte) : fromBytes [a, b] = a.toNat * 256 + b.toNat := by
  simp [fromBytes]

theorem staleDay_iff (r : Readout) (day : Nat) :
    staleDay r day = true ↔ day + 1 = r.day ∧ r.hour = 0 ∧ r.minute = 0 := by
  simp [staleDay, and_assoc]

/-- The day counter a CLOCK frame carries (R143). -/
def clockDay (f : Frame) : Nat := (f.byte 4).toNat * 256 + (f.byte 5).toNat

/-- The frames that R143 has the cluster ignore. -/
def ClockIgnored (s : State) (f : Frame) : Prop :=
  s.pw.role = .front ∨ f.data.length < 5 ∨ 23 < (f.byte 1).toNat ∨ 59 < (f.byte 2).toNat ∨ 59 < (f.byte 3).toNat ∨
    (clockDay f + 1 = s.readout.day ∧ s.readout.hour = 0 ∧ s.readout.minute = 0)

/-- The Readout Driver with the time of a CLOCK frame and a day counter. -/
def Readout.setClock (r : Readout) (f : Frame) (day : Nat) : Readout :=
  { r with hour := (f.byte 1).toNat, minute := (f.byte 2).toNat, second := (f.byte 3).toNat, unset := false, day := day }

/-! ## CLOCK: its three outcomes -/

/-- All that follows a raise of the day counter: the COUNTERS write and the service items evaluated (R140). -/
theorem State.dayFollows_eq (s : State) :
    s.dayFollows = { s with
      pw := { s.pw with queue := writeRequest s.pw.queue .counters (countersWords s.service.hours s.readout.day) }
      service := { s.service with
        items := s.service.items.map (fun i => i.evaluate s.acc.odo s.readout.day s.service.hours) } } := rfl

section
variable {s : State} {f : Frame}

/-- The model's test of a CLOCK frame is R143's. -/
theorem clockIgnored_iff :
    (s.pw.role = .front ∨ f.len < 5 ∨ 23 < (f.byte 1).toNat ∨ 59 < (f.byte 2).toNat ∨ 59 < (f.byte 3).toNat ∨
      staleDay s.readout (fromBytes [f.byte 4, f.byte 5]) = true) ↔ ClockIgnored s f := by
  rw [staleDay_iff, fromBytes_two]
  rfl

theorem State.clockFrame_ignored (h : ClockIgnored s f) : s.clockFrame f = s :=
  if_pos (clockIgnored_iff.mpr h)

/-- A frame that is not ignored: the time and the higher of the two day counters are taken, and a raise has what follows
from it (R143). -/
theorem State.clockFrame_taken (h : ¬ ClockIgnored s f) :
    s.clockFrame f =
      let t := s.setReadout (s.readout.setClock f (max s.readout.day (clockDay f)))
      if s.readout.day < clockDay f then t.dayFollows else t := by
  rw [State.clockFrame, if_neg (clockIgnored_iff.not.mpr h), fromBytes_two]
  simp only [decide_eq_true_eq]
  rfl

/-- A day that is not higher leaves the day counter, with no day step (R143). -/
theorem State.clockFrame_dayKept (h : ¬ ClockIgnored s f) (hday : clockDay f ≤ s.readout.day) :
    s.clockFrame f = s.setReadout (s.readout.setClock f s.readout.day) := by
  rw [State.clockFrame_taken h, Nat.max_eq_left hday]
  exact if_neg hday.not_gt

/-- A higher day is taken, with a day step (R143). -/
theorem State.clockFrame_dayRaised (h : ¬ ClockIgnored s f) (hday : s.readout.day < clockDay f) :
    s.clockFrame f = (s.setReadout (s.readout.setClock f (clockDay f))).dayFollows := by
  rw [State.clockFrame_taken h, Nat.max_eq_right hday.le]
  exact if_pos hday

end

/-! ## OPTIONS: codes and clamps -/

theorem optionUnits_eq (keep : Units) (code : Nat) :
    optionUnits keep code =
      if code = 0 then .metric else if code = 1 then .us else if code = 2 then .imperial else keep := by
  match code with
  | 0 | 1 | 2 => rfl
  | _ + 3 => simp [optionUnits]

theorem optionClock_eq (keep : Bool) (code : Nat) :
    optionClock keep code = if code = 0 then false else if code = 1 then true else keep := by
  match code with
  | 0 | 1 => rfl
  | _ + 2 => simp [optionClock]

/-- 0 stays no limit; any other limit is clamped to 30 to 250 (R178, R180). -/
theorem overspeedOf_eq (n : Nat) :
    overspeedOf n = if n = 0 then 0 else if n < 30 then 30 else if 250 < n then 250 else n := by
  unfold overspeedOf clampNat
  split_ifs <;> omega

/-- The volume is clamped to 1 to 4 (R178, R180). -/
theorem clampNat_volume (n : Nat) : clampNat 1 4 n = if n = 0 then 1 else if 4 < n then 4 else n := by
  unfold clampNat
  split_ifs <;> omega

/-! ## OPTIONS: its two outcomes -/

section
variable {s : State} {f : Frame}

/-- A short frame, or one after the first, is discarded (R180). -/
theorem State.optionsFrame_discarded (h : f.data.length < 4 ∨ s.pw.optionsTaken = true) : s.optionsFrame f = s :=
  if_pos h

/-- The first frame of full length after a reset is taken, with its clamps (R180). -/
theorem State.optionsFrame_taken (hlen : 4 ≤ f.data.length) (hfirst : s.pw.optionsTaken = false) :
    s.optionsFrame f = s.setPw { s.pw with
      optionsTaken := true
      units := optionUnits s.cal.units (f.byte 1).toNat
      overspeed := overspeedOf (f.byte 2).toNat
      volume := clampNat 1 4 (f.byte 3).toNat
      clock12 := optionClock s.cal.clock12 (f.byte 4).toNat } := by
  have hkeep : ¬ (f.len < 4 ∨ s.pw.optionsTaken = true) := by
    simpa [hfirst, Frame.len] using hlen
  exact if_neg hkeep

end

/-! ## The statement -/

/-- Settles O36: the frame leaves the inbound queue, and each outcome of R143 and of R180 is one equation of the block that
takes it. -/
theorem clockAndOptionsFrames : Obligations.ClockAndOptionsFrames := by
  unfold Obligations.ClockAndOptionsFrames
  refine ⟨?clock, ?options⟩
  case clock =>
    intro s f rest hstate hq hkind h m sec day taken ignored set
    have htaken : exec .clock s = .next (taken.clockFrame f.frame).finish :=
      (exec_clock s).trans (takeFrame_ofKind hstate hq hkind)
    refine ⟨fun hign => ?ignored, fun hign hday => ?dayKept, fun hign hday => ?dayRaised⟩
    case ignored => rw [htaken, State.clockFrame_ignored (s := taken) hign]
    case dayKept =>
      rw [htaken, State.clockFrame_dayKept (s := taken) hign hday]
      rfl
    case dayRaised =>
      rw [htaken, State.clockFrame_dayRaised (s := taken) hign hday, State.dayFollows_eq]
      rfl
  case options =>
    intro s f rest hstate hq hkind b taken
    have htaken : exec .options s = .next (taken.optionsFrame f.frame).finish :=
      (exec_options s).trans (takeFrame_ofKind hstate hq hkind)
    refine ⟨fun hdiscard => ?discarded, fun hlen hfirst => ?taken⟩
    case discarded => rw [htaken, State.optionsFrame_discarded (s := taken) hdiscard]
    case taken =>
      rw [htaken, State.optionsFrame_taken (s := taken) hlen hfirst, optionUnits_eq, overspeedOf_eq, clampNat_volume,
        optionClock_eq]
      rfl

end Sys2Proof.Machine
end

section
/-! PROOFS. The transmit queue keeps its laws (R153): whatever a request, an attempt or a departure makes of it. -/

namespace Sys2Proof.Machine

/-- The laws of R153 as a property of the queue alone. -/
def TxLaw (q : List TxEntry) : Prop :=
  q.length ≤ 8 ∧ (q.map TxEntry.key).Nodup ∧ q.Pairwise (fun x y => priorityOf x.kind ≤ priorityOf y.kind)

/-! ## Placing an entry -/

theorem txPlace_perm (e : TxEntry) (q : List TxEntry) : (txPlace e q).Perm (e :: q) := by
  induction q with
  | nil => exact .refl _
  | cons x rest ih =>
    unfold txPlace
    split
    · exact .refl _
    · exact (ih.cons x).trans (.swap e x rest)

/-- An entry placed behind those of the same or better priority leaves the order (R153). -/
theorem txPlace_sorted {e : TxEntry} {q : List TxEntry}
    (h : q.Pairwise (fun x y => priorityOf x.kind ≤ priorityOf y.kind)) :
    (txPlace e q).Pairwise (fun x y => priorityOf x.kind ≤ priorityOf y.kind) := by
  induction q with
  | nil => simp [txPlace]
  | cons x rest ih =>
    obtain ⟨hx, hrest⟩ := List.pairwise_cons.mp h
    unfold txPlace
    split
    · rename_i hlt
      refine List.pairwise_cons.mpr ⟨fun y hy => ?_, h⟩
      rcases List.mem_cons.mp hy with rfl | hy
      · exact hlt.le
      · exact hlt.le.trans (hx y hy)
    · rename_i hge
      refine List.pairwise_cons.mpr ⟨fun y hy => ?_, ih hrest⟩
      rcases (mem_txPlace e y rest).mp hy with rfl | hy
      · exact Nat.le_of_not_lt hge
      · exact hx y hy

theorem TxLaw.place {e : TxEntry} {q : List TxEntry} (h : TxLaw q) (hlen : q.length < 8)
    (hnew : e.key ∉ q.map TxEntry.key) : TxLaw (txPlace e q) := by
  obtain ⟨-, hkeys, hsorted⟩ := h
  refine ⟨by simpa using hlen, ?_, txPlace_sorted hsorted⟩
  exact ((txPlace_perm e q).map TxEntry.key).nodup_iff.mpr (by simpa using ⟨by simpa using hnew, hkeys⟩)

/-! ## Fewer entries, and entries changed under their keys -/

theorem TxLaw.sublist {p q : List TxEntry} (h : TxLaw q) (hp : p.Sublist q) : TxLaw p := by
  obtain ⟨hlen, hkeys, hsorted⟩ := h
  exact ⟨hp.length_le.trans hlen, hkeys.sublist (hp.map _), hsorted.sublist hp⟩

theorem TxLaw.map {f : TxEntry → TxEntry} {q : List TxEntry} (hf : ∀ e, (f e).key = e.key) (h : TxLaw q) :
    TxLaw (q.map f) := by
  obtain ⟨hlen, hkeys, hsorted⟩ := h
  have hkind : ∀ e, (f e).kind = e.kind := fun e => congrArg Prod.fst (hf e)
  refine ⟨by simpa using hlen, ?_, ?_⟩
  · rwa [List.map_map, show TxEntry.key ∘ f = TxEntry.key from funext hf]
  · simpa [List.pairwise_map, hkind] using hsorted

theorem TxEntry.take_key (e : TxEntry) (data : List Byte) : (e.take data).key = e.key := by
  unfold TxEntry.take
  split <;> rfl

theorem TxEntry.hasKey_iff (e : TxEntry) (kind : BitVec 5) (subject : Option Nat) :
    e.hasKey kind subject = true ↔ e.key = (kind, subject) := by
  simp [TxEntry.hasKey, TxEntry.key]

/-! ## Requests (R153, R154) -/

theorem TxLaw.replace {q : List TxEntry} (h : TxLaw q) (kind : BitVec 5) (subject : Option Nat) (data : List Byte) :
    TxLaw (txReplace q kind subject data) := by
  refine h.map fun e => ?_
  split
  · exact e.take_key data
  · rfl

/-- The worst waiting entry is one of the queue's (R154). -/
theorem txWorst_mem {q : List TxEntry} {w : TxEntry} (h : txWorst q = some w) : w ∈ q ∧ w.sending = false := by
  simpa using List.mem_of_getLast? h

/-- Taking the worst entry out makes room for one (R154). -/
theorem txWithout_length {q : List TxEntry} {w : TxEntry} (h : txWorst q = some w) :
    (txWithout q w.kind w.subject).length < q.length := by
  obtain ⟨hmem, hwaits⟩ := txWorst_mem h
  refine List.length_filter_lt_length_iff_exists.mpr ⟨w, hmem, ?_⟩
  simp [TxEntry.hasKey, hwaits]

theorem TxLaw.request {q : List TxEntry} (h : TxLaw q) (kind : BitVec 5) (subject : Option Nat) (data : List Byte) :
    TxLaw (txRequest q kind subject data).queue := by
  have hnew : ∀ p : List TxEntry, p.Sublist q → q.any (fun e => e.hasKey kind subject) = false →
      (TxEntry.new kind subject data).key ∉ p.map TxEntry.key := by
    intro p hp hno hin
    obtain ⟨e, he, hkey⟩ := List.mem_map.mp hin
    have := List.any_eq_false.mp hno e (hp.subset he)
    exact this ((TxEntry.hasKey_iff ..).mpr hkey)
  obtain ⟨-, hr⟩ | ⟨hno, hlen, hr⟩ | ⟨hno, -, w, hw, -, hr⟩ | ⟨-, -, hr⟩ := txRequest_cases q kind subject data
  · rw [hr]
    exact h.replace kind subject data
  · rw [hr]
    exact h.place hlen (hnew q (.refl q) hno)
  · rw [hr]
    have hsub : (txWithout q w.kind w.subject).Sublist q := List.filter_sublist
    have hroom := txWithout_length hw
    have hlen : q.length ≤ 8 := h.1
    exact (h.sublist hsub).place (by omega) (hnew _ hsub hno)
  · rw [hr]
    exact h

/-! ## Attempts (R150, R151) -/

theorem TxLaw.begin {q : List TxEntry} (h : TxLaw q) : TxLaw (txBegin q) := by
  cases q with
  | nil => exact h
  | cons e rest => simpa [TxLaw, txBegin, TxEntry.key] using h

theorem TxLaw.lost {q : List TxEntry} (h : TxLaw q) : TxLaw (txLost q) := by
  refine h.map fun e => ?_
  split <;> rfl

theorem TxLaw.keep {q : List TxEntry} (h : TxLaw q) : TxLaw (txKeep q) := by
  refine h.map fun e => ?_
  split <;> rfl

/-- An attempt's end takes the entry in transmission out; its replacement comes back under the same key (R151, R153). -/
theorem TxLaw.remove {q : List TxEntry} (h : TxLaw q) : TxLaw (txRemove q) := by
  have hrest : TxLaw (q.filter (fun e => !e.sending)) := h.sublist List.filter_sublist
  unfold txRemove
  dsimp only
  split
  · rename_i e he
    have hmem : e ∈ q := List.mem_of_find?_eq_some he
    have hsends : e.sending = true := by simpa using List.find?_some he
    split
    · rename_i d hd
      obtain ⟨hlen, hkeys, -⟩ := h
      refine hrest.place ?_ ?_
      · exact (List.length_filter_lt_length_iff_exists.mpr ⟨e, hmem, by simp [hsends]⟩).trans_le hlen
      · intro hin
        obtain ⟨x, hx, hkey⟩ := List.mem_map.mp hin
        obtain ⟨hxq, hwaits⟩ := List.mem_filter.mp hx
        have hxe : x = e := List.inj_on_of_nodup_map hkeys hxq hmem hkey
        simp [hxe, hsends] at hwaits
    · exact hrest
  · exact hrest

end Sys2Proof.Machine
end

section
/-! PROOFS. What a step can do, said once: the elementary changes of the part, each with what guards it. Every command is a
run of them, and a law of the device is kept when each of them keeps it. -/

namespace Sys2Proof.Machine

/-! ## What the changes of one block leave alone -/

/-- A change of Power and Timebase that leaves the power state, the role, the writes, and the ticks that are stopped. -/
structure PowerUnit.SameDuty (p q : PowerUnit) : Prop where
  state : q.state = p.state
  role : q.role = p.role
  queue : q.queue = p.queue
  writing : q.writing = p.writing
  gauge : p.nextGauge = none → q.nextGauge = none
  trip : p.nextTrip = none → q.nextTrip = none
  heart : p.nextHeart = none → q.nextHeart = none

/-- A change of the Accumulator in which the odometer stays or rises within its range (R25, R31), and the residues stay. -/
structure Accum.Grows (a b : Accum) : Prop where
  odo : a.odo ≤ 9999999 → a.odo ≤ b.odo ∧ b.odo ≤ 9999999
  metres : a.metres < 100 → b.metres < 100
  distRes : b.distRes = a.distRes
  fuelRes : b.fuelRes = a.fuelRes

/-- The records, snapshots and window within their ranges (R34). -/
structure Trip.RecordsInRange (t : Trip) : Prop where
  a : t.a.inRange
  b : t.b.inRange
  snapA : t.snapA.inRange
  snapB : t.snapB.inRange
  winDist : t.winDist ≤ 63999
  winFuel : t.winFuel ≤ 999999

/-- The level filter within its range (R34, R40). -/
def Trip.FilterInRange (t : Trip) : Prop := t.f ≤ 65280 ∧ t.fastFill ≤ 30

/-- A channel record changed at a tick: its calibration stays, and with it its ranges and whether it is OFF (R64, R74). -/
structure Channel.Moves (b c : Channel) : Prop where
  cal : c.cal = b.cal
  inRange : b.inRange → c.inRange
  off : (b.state = .off ↔ b.cal.source = .off) → (c.state = .off ↔ c.cal.source = .off)

/-- The clock, the day counter and the rotation within their ranges (R129). -/
def Readout.InRange (r : Readout) : Prop :=
  r.hour ≤ 23 ∧ r.minute ≤ 59 ∧ r.second ≤ 59 ∧ r.day ≤ 65535 ∧ r.rotCount ≤ 19

/-- A change of the Readout Driver that leaves what the message readout shows, and the ranges. -/
structure Readout.SameShown (r q : Readout) : Prop where
  message : q.message = r.message
  brightness : q.brightness = r.brightness
  inRange : r.InRange → q.InRange

/-- A change of the engine-hour counter: the items stay, and the ranges (R117). -/
structure Service.Counts (v w : Service) : Prop where
  items : w.items = v.items
  inRange : v.hours ≤ 999999 ∧ v.seconds ≤ 359 → w.hours ≤ 999999 ∧ w.seconds ≤ 359

/-- A held entry stays bound as it was, or is bound to a station that is not ABSENT (R7, R13 to R15). -/
def Signals.BoundFrom (s : State) (t : Signals) : Prop :=
  ∀ k, (t.hdr k).fresh.held = true →
    ((s.sig.hdr k).fresh.held = true ∧ (t.hdr k).bound = (s.sig.hdr k).bound) ∨
      ∃ n, (t.hdr k).bound = some n ∧ s.peer.isAbsent n = false

/-- STABILISE ends, or LOAD with the channels calibrated (R170). -/
def State.Starting (s : State) : Prop :=
  s.pw.state = .stabilise ∨
    (s.pw.state = .load ∧ ∀ c ∈ s.gauges, (c.state = .off ↔ c.cal.source = .off))

/-! ## The elementary changes -/

/-- One elementary change of the part, with what guards it. -/
inductive Act (s : State) : State → Prop
  | pending (l : List Instr) : Act s (s.setPending l)
  | idled (n : Nat) : Act s (s.setIdled n)
  | pins (x : Pins) : Act s (s.setPins x)
  | straps : s.pw.state = .load → Act s s.readStraps
  /-- Times, timers and settings (R172, R174, R180). -/
  | power (p : PowerUnit) : s.pw.SameDuty p → Act s (s.setPw p)
  /-- Between STANDBY and ACTIVE the tone stays as it is (R170). -/
  | turn (p : Power) : s.pw.state = .standby ∨ s.pw.state = .active → p = .standby ∨ p = .active → Act s (s.setPower p)
  /-- From LOAD, STABILISE and CRANK the tone leaves SILENT (R106, R110). -/
  | sound (p : Power) : s.Starting ∨ s.pw.state = .crank → p = .standby ∨ p = .active →
      Act s (s.setPower p).awakenTone
  | crank : s.pw.state = .active → Act s ((s.setPower .crank).setChime s.chime.silence)
  | sleep : s.pw.state = .standby → Act s s.enterSleep
  | stabilise : s.pw.state = .sleep → Act s (s.setPw s.pw.wake)
  | stationsWake : (∀ k, (s.sig.hdr k).fresh.held = false) →
      Act s (s.setPeer { s.peer with stations := s.peer.stations.map Station.wake })
  /-- The writes of the blocks (R179). -/
  | writeOdometer : Act s s.requestOdometer
  | writeService : Act s s.requestService
  | writeTrip : Act s s.requestTrip
  | writeCounters : Act s s.requestCounters
  | writeCal (a : Nat) (w : Word) : a ≤ 383 →
      (calWaiting s.pw.queue < 4 ∨ s.pw.queue.any (fun e => e.key == .calWord a) = true) →
      Act s (s.requestWrite (.calWord a) [w])
  | writeBegin (e : WriteEntry) : e ∈ s.pw.queue →
      Act s (s.setPw { s.pw with queue := s.pw.queue.filter (fun x => x.key != e.key)
                                 writing := some (writeJob e s.acc.slot) })
  | writeComplete (j : WriteJob) : s.pw.writing = some j →
      Act s ((s.setPw { s.pw with writing := none }).setMem (memWriteAll s.mem j.base j.data))
  /-- The Accumulator within one kilometre. -/
  | accum (a : Accum) : s.acc.Grows a → a.odo / 10 = s.acc.odo / 10 → Act s (s.setAcc a)
  /-- The odometer moves, and the items are evaluated (R121). -/
  | odometer (a : Accum) : s.acc.Grows a → Act s (s.setAcc a).evaluateItems
  /-- Pulses of less than a metre, and with whole metres for the trips (R21). -/
  | pulses (count : Word) (d : Nat) : s.pw.state ≠ .load → d ≤ 1023 →
      Act s (s.setAcc (s.acc.takeDistance count d s.cal.kDist))
  | metres (count : Word) (d : Nat) : s.pw.state ≠ .load → d ≤ 1023 →
      Act s (s.takeDistance count d ((s.acc.distRes + d * 1000) / s.cal.kDist))
  /-- Pulses of less than a millilitre, and with whole millilitres for the trips (R22). -/
  | fuelPulses (count : Word) (d : Nat) : s.pw.state ≠ .load → d ≤ 1023 →
      Act s (s.setAcc (s.acc.takeFuel count d s.cal.kFuel))
  | millilitres (count : Word) (d : Nat) : s.pw.state ≠ .load → d ≤ 1023 →
      Act s ((s.setAcc (s.acc.takeFuel count d s.cal.kFuel)).setTrip
        (s.trip.addMillilitres ((s.acc.fuelRes + d * 1000) / s.cal.kFuel)))
  | trip (t : Trip) : (s.trip.RecordsInRange → t.RecordsInRange) → (s.trip.FilterInRange → t.FilterInRange) →
      Act s (s.setTrip t)
  /-- The Line Port without its queues. -/
  | line (l : Line) : s.pw.state ≠ .sleep → l.tx = s.line.tx → l.inbound = s.line.inbound → Act s (s.setLine l)
  | pauseOver : Act s (s.setLine { s.line with pause := none })
  | take (f : Stored) (rest : List Stored) : s.line.inbound = f :: rest → Act s (s.setLine (s.line.take rest))
  | store (l : Line) (f : Stored) : s.pw.state ≠ .sleep → s.line.inbound.length < 16 →
      l.inbound = s.line.inbound ++ [f] → l.tx = s.line.tx → Act s (s.setLine l)
  | tx (q : List TxEntry) : (TxLaw s.line.tx → TxLaw q) → Act s (s.setLine { s.line with tx := q })
  | tally (t : OwnTallies) : (s.tally.bounded → t.bounded) → Act s (s.setTally t)
  | signals (t : Signals) : t.BoundFrom s → Act s (s.setSig t)
  | markAbsent (n : StationNo) : Act s (s.markAbsent n)
  | status (n : StationNo) (v : BitVec 7) (arrival : Nat) :
      Act s (s.setPeer (s.peer.setStation n (fun r => r.takeStatus v arrival)))
  | peer (p : Peer) : p.stations = s.peer.stations → Act s (s.setPeer p)
  | clearTallies (snap : Snapshot) : Act s (s.setPeer { s.peer with
      snapshot := snap, stations := s.peer.stations.map (fun r => { r with tallies := StationTallies.zero }) })
  | gauges (l : List Channel) : s.pw.state ≠ .sleep → (∀ c ∈ l, ∃ b ∈ s.gauges, b.Moves c) → Act s (s.setGauges l)
  | readout (r : Readout) : s.readout.SameShown r → r.day = s.readout.day → Act s (s.setReadout r)
  | compose : Act s s.compose
  /-- A day step, and the items evaluated (R140). -/
  | day (r : Readout) : s.readout.SameShown r → Act s (s.setReadout r).evaluateItems
  | service (v : Service) : s.service.Counts v → v.hours / 10 = s.service.hours / 10 → Act s (s.setService v)
  /-- A whole-hour step, and the items evaluated (R118). -/
  | hour (v : Service) : s.service.Counts v → Act s (s.setService v).evaluateItems
  | rebase (n o d h : Nat) : o ≤ s.acc.odo → Act s (s.rebaseItem n o d h)
  /-- The Warning Unit without its entries. -/
  | warn (w : WarnUnit) : w.table = s.warn.table → (s.warn.flash ≤ 9 → w.flash ≤ 9) → Act s (s.setWarn w)
  | marks (now : Nat) : Act s (s.setWarn (s.warn.expireMarks now))
  /-- An entry that stays ACTIVE, or has no chime entry (R92). -/
  | entry (n : Nat) (e e' : Warning) : s.warn.entry n = some e → e'.cfg = e.cfg →
      (e.state = .active → e'.state = .active ∨ s.chime.holds n = false) →
      (s.pw.state = .sleep → e'.state = e.state) → Act s (s.setWarn (s.warn.setEntry n e'))
  | silence (n : Nat) (e e' : Warning) : s.warn.entry n = some e → e'.cfg = e.cfg → s.pw.state ≠ .sleep →
      Act s (s.storeAndSilence n e')
  | raise (n : Nat) (e e' : Warning) : s.warn.entry n = some e → e'.cfg = e.cfg → e.state ≠ .active →
      s.pw.state = .standby ∨ s.pw.state = .active → Act s (s.raiseWarning n e')
  | patternEnd (w : Nat) : s.chime.mode = .pattern → s.chime.playing = some w →
      Act s ((s.setChime (({ s.chime with queue := chimeWithout s.chime.queue w }).passToHead s.pw.time)).chimeReport w)
  | click (refusal : Bool) : Act s (s.setChime (s.chime.askClick s.pw.time refusal))
  | secondClick (k : Click) : s.chime.mode = .click → Act s (s.setChime { s.chime with click := some k })
  | clickEnd : s.chime.mode = .click → Act s (s.setChime s.chime.endClick)
  | patternStep (x : PatternStep) : s.chime.mode = .pattern → Act s (s.setChime { s.chime with step := some x })

/-- A run of elementary changes. -/
abbrev Acts : State → State → Prop := Relation.ReflTransGen Act

theorem Act.run {s t : State} (h : Act s t) : Acts s t := .single h

/-- A change that comes after a run. -/
theorem Act.after {s t u : State} (h : Act t u) (first : Acts s t) : Acts s u := first.tail h

/-- A run that comes after a run. -/
theorem Acts.after {s t u : State} (h : Acts t u) (first : Acts s t) : Acts s u := first.trans h

theorem Acts.same (s : State) : Acts s s := Relation.ReflTransGen.refl

/-- A law that every elementary change keeps is kept along a run of them. -/
theorem Acts.keep {P : State → Prop} (hact : ∀ s t, Act s t → P s → P t) {s t : State} (h : Acts s t) (hs : P s) :
    P t := by
  induction h with
  | refl => exact hs
  | tail _ hlast ih => exact hact _ _ hlast ih

end Sys2Proof.Machine
end

section
/-! PROOFS. The blocks' shared operations as runs of elementary changes. -/

namespace Sys2Proof.Machine

/-! ## Tallies -/

theorem OwnTallies.bounded_txDropped {t : OwnTallies} (h : t.bounded) : { t with txDropped := bump16 t.txDropped }.bounded := by
  simp_all [OwnTallies.bounded, bump16_le]

theorem OwnTallies.bounded_undelivered {t : OwnTallies} (h : t.bounded) :
    { t with undelivered := bump16 t.undelivered }.bounded := by
  simp_all [OwnTallies.bounded, bump16_le]

theorem OwnTallies.bounded_holdsSeen {t : OwnTallies} (h : t.bounded) :
    { t with holdsSeen := bump16 t.holdsSeen }.bounded := by
  simp_all [OwnTallies.bounded, bump16_le]

theorem OwnTallies.bounded_rxCheckErrors {t : OwnTallies} (h : t.bounded) :
    { t with rxCheckErrors := bump16 t.rxCheckErrors }.bounded := by
  simp_all [OwnTallies.bounded, bump16_le]

theorem OwnTallies.bounded_rxOverflow {t : OwnTallies} (h : t.bounded) :
    { t with rxOverflow := bump16 t.rxOverflow }.bounded := by
  simp_all [OwnTallies.bounded, bump16_le]

theorem OwnTallies.bounded_odometerDisagree {t : OwnTallies} (h : t.bounded) :
    { t with odometerDisagree := bump8 t.odometerDisagree }.bounded := by
  simp_all [OwnTallies.bounded, bump8_le]

theorem OwnTallies.bounded_distanceGaps {t : OwnTallies} (h : t.bounded) :
    { t with distanceGaps := bump16 t.distanceGaps }.bounded := by
  simp_all [OwnTallies.bounded, bump16_le]

theorem OwnTallies.bounded_fuelGaps {t : OwnTallies} (h : t.bounded) :
    { t with fuelGaps := bump16 t.fuelGaps }.bounded := by
  simp_all [OwnTallies.bounded, bump16_le]

theorem OwnTallies.bounded_foreignFrames {t : OwnTallies} (h : t.bounded) :
    { t with foreignFrames := bump16 t.foreignFrames }.bounded := by
  simp_all [OwnTallies.bounded, bump16_le]

theorem OwnTallies.bounded_lineFaults {t : OwnTallies} (h : t.bounded) :
    { t with lineFaults := bump8 t.lineFaults }.bounded := by
  simp_all [OwnTallies.bounded, bump8_le]

theorem OwnTallies.bounded_chimesDisplaced {t : OwnTallies} (h : t.bounded) :
    { t with chimesDisplaced := bump8 t.chimesDisplaced }.bounded := by
  simp_all [OwnTallies.bounded, bump8_le]

theorem OwnTallies.bounded_zero : OwnTallies.zero.bounded := by
  simp [OwnTallies.bounded, OwnTallies.zero]

/-! ## The transmit queue -/

/-- A request's effect on the Line Port and its tally (R153, R154). -/
theorem State.queueFrame_acts {s : State} {r : TxResult} (h : TxLaw s.line.tx → TxLaw r.queue) :
    Acts s (s.queueFrame r) := by
  unfold State.queueFrame
  dsimp only
  split
  · exact Act.after (.tally _ OwnTallies.bounded_txDropped) (Act.run (.tx _ h))
  · exact Act.run (.tx _ h)

theorem sendReports_acts (parts : List (Nat × Nat)) (s : State) : Acts s (sendReports parts s) := by
  induction parts generalizing s with
  | nil => exact Act.run (.peer _ rfl)
  | cons p rest ih =>
    unfold sendReports
    dsimp only
    have hqueue := State.queueFrame_acts (fun h : TxLaw s.line.tx =>
      h.request kindTallyReport (some p.1) (reportData s.peer.snapshot p.1 p.2))
    split
    · exact hqueue.trans (ih _)
    · exact Act.after (.peer _ rfl) hqueue

theorem State.departure_acts (s : State) (kind : BitVec 5) : Acts s (s.departure kind) := by
  unfold State.departure
  split
  · exact sendReports_acts _ s
  · exact .same s

theorem State.sendFrame_acts (s : State) (kind : BitVec 5) (subject : Option Nat) (data : List Byte) :
    Acts s (s.sendFrame kind subject data) := by
  unfold State.sendFrame
  dsimp only
  have hqueue := State.queueFrame_acts (fun h : TxLaw s.line.tx => h.request kind subject data)
  split
  · exact hqueue.trans (State.departure_acts ..)
  · exact hqueue

theorem State.endAttempt_acts (s : State) (ack : Bool) : Acts s (s.endAttempt ack) := by
  unfold State.endAttempt
  split
  · exact .same s
  · split
    · exact (State.departure_acts ..).after (Act.run (.tx _ TxLaw.remove))
    · split
      · exact Act.run (.tx _ TxLaw.keep)
      · exact (State.departure_acts ..).after
          (Act.after (.tally _ OwnTallies.bounded_undelivered) (Act.run (.tx _ TxLaw.remove)))

theorem State.announce_acts (s : State) : Acts s s.announce := s.sendFrame_acts ..

/-! ## The line's slots and the receiver -/

theorem State.holdSlot_acts {s : State} (others : Bool) (h : s.pw.state ≠ .sleep) : Acts s (s.holdSlot others) := by
  unfold State.holdSlot
  dsimp only
  split
  · exact Act.after (.tally _ OwnTallies.bounded_holdsSeen) (Act.run (.line _ h rfl rfl))
  · exact Act.run (.line _ h rfl rfl)

theorem State.checkError_acts (s : State) : Acts s s.checkError := Act.run (.tally _ OwnTallies.bounded_rxCheckErrors)

theorem State.storeFrame_acts {s : State} (f : Frame) (h : s.pw.state ≠ .sleep) : Acts s (s.storeFrame f) := by
  unfold State.storeFrame
  split
  · rename_i hroom
    exact Act.run (.store _ _ h hroom rfl rfl)
  · exact Act.after (.tally _ OwnTallies.bounded_rxOverflow) (Act.run (.line _ h rfl rfl))

theorem State.receiveBits_acts {s : State} (bits : List Bool) (others : Bool) (h : s.pw.state ≠ .sleep) :
    Acts s (s.receiveBits bits others) := by
  unfold State.receiveBits
  split
  case h_1 => exact Act.run (.line _ h rfl rfl)
  case h_2 => exact (State.checkError_acts _).after (Act.run (.line _ h rfl rfl))
  case h_3 =>
    refine (State.holdSlot_acts others ?_).after ((State.checkError_acts _).after (Act.run (.line _ h rfl rfl)))
    simpa using h
  case h_4 f _ =>
    have hready : Acts s s.rxReady := Act.run (.line _ h rfl rfl)
    refine (State.holdSlot_acts others ?_).after ((State.storeFrame_acts f ?_).after hready) <;> simpa using h

/-! ## The Accumulator and the items -/

/-- A change of the Accumulator that leaves the odometer, the metre count and the residues. -/
theorem Act.accumKeeps {s : State} (a : Accum) (hodo : a.odo = s.acc.odo) (hmetres : a.metres = s.acc.metres)
    (hdist : a.distRes = s.acc.distRes) (hfuel : a.fuelRes = s.acc.fuelRes) : Act s (s.setAcc a) :=
  .accum a ⟨by rw [hodo]; exact fun h => ⟨le_rfl, h⟩, by rw [hmetres]; exact id, hdist, hfuel⟩ (by rw [hodo])

theorem State.requestOdometer_evaluateItems (s : State) :
    s.requestOdometer.evaluateItems = s.evaluateItems.requestOdometer := by
  unfold State.requestOdometer
  rw [show s.evaluateItems.acc = s.acc from rfl]
  split <;> rfl

/-- An odometer value taken, with its evaluation at a change of the whole kilometres (R121). -/
theorem Acts.takeOdo {s : State} (a : Accum) (h : s.acc.Grows a) :
    Acts s (if (s.setAcc a).acc.odo / 10 ≠ s.acc.odo / 10 then (s.setAcc a).evaluateItems else s.setAcc a) := by
  split
  · exact Act.run (.odometer a h)
  · rename_i hkm
    exact Act.run (.accum a h (by simpa using hkm))

theorem State.adopt_acts {s : State} {value : Nat} (h : s.acc.odo ≤ 9999999 → s.acc.odo ≤ value ∧ value ≤ 9999999) :
    Acts s (s.adopt value) := by
  unfold State.adopt
  dsimp only
  refine (State.announce_acts _).after (Act.writeOdometer.after (Acts.takeOdo _ ?_))
  exact ⟨h, id, rfl, rfl⟩

theorem State.peerOdometer_acts (s : State) (peer : Nat) : Acts s (s.peerOdometer peer) := by
  have hvalue : min peer maxOdo ≤ 9999999 := Nat.min_le_right ..
  unfold State.peerOdometer
  dsimp only
  split
  · exact State.adopt_acts (by omega)
  · split
    · exact .same s
    · split
      · exact State.adopt_acts (by omega)
      · exact Act.after (.tally _ OwnTallies.bounded_odometerDisagree) (Act.run (.accumKeeps _ rfl rfl rfl rfl))

theorem State.unknownSecond_acts (s : State) : Acts s s.unknownSecond := by
  unfold State.unknownSecond
  split
  · exact .same s
  · split
    · exact (State.announce_acts _).after (Act.writeOdometer.after (Act.run (.accumKeeps _ rfl rfl rfl rfl)))
    · exact Act.run (.accumKeeps _ rfl rfl rfl rfl)

theorem State.countOdometer_acts (s : State) (m : Nat) : Acts s (s.countOdometer m) := by
  have hgrows : s.acc.Grows (s.acc.countMetres m) :=
    ⟨fun h => ⟨by simp only [Accum.countMetres, maxOdo]; omega, Nat.min_le_right ..⟩,
      fun _ => Nat.mod_lt _ (by decide), rfl, rfl⟩
  have hodo : Acts s (if (s.setAcc (s.acc.countMetres m)).acc.odo / 10 ≠ s.acc.odo / 10
      then (s.setAcc (s.acc.countMetres m)).requestOdometer.evaluateItems else s.setAcc (s.acc.countMetres m)) := by
    have htake := Acts.takeOdo _ hgrows
    split
    · rename_i hkm
      rw [if_pos hkm] at htake
      rw [State.requestOdometer_evaluateItems]
      exact htake.tail .writeOdometer
    · rename_i hkm
      rwa [if_neg hkm] at htake
  simp only [State.countOdometer]
  generalize (if (s.setAcc (s.acc.countMetres m)).acc.odo / 10 ≠ s.acc.odo / 10
    then (s.setAcc (s.acc.countMetres m)).requestOdometer.evaluateItems else s.setAcc (s.acc.countMetres m)) = u at hodo ⊢
  split
  · exact (State.announce_acts u).after hodo
  · exact hodo

/-! ## The counts of a signal frame (R19 to R22) -/

theorem countResult_cases (baseline : Option Word) (count : Word) (rebound : Bool) :
    (rebound = true ∨ baseline = none) ∨
      ∃ b, rebound = false ∧ baseline = some b ∧ (1023 < (count - b).toNat ∨ (count - b).toNat ≤ 1023) := by
  cases rebound with
  | true => exact .inl (.inl rfl)
  | false =>
    cases baseline with
    | none => exact .inl (.inr rfl)
    | some b => exact .inr ⟨b, rfl, rfl, Nat.lt_or_ge ..⟩

theorem State.distanceCount_acts {s : State} (count : Word) (rebound : Bool) (h : s.pw.state ≠ .load) :
    Acts s (s.distanceCount count rebound) := by
  obtain hbase | ⟨b, rfl, hb, hgap | hle⟩ := countResult_cases s.acc.distBase count rebound
  · rw [State.distanceCount_rebase hbase]
    exact Act.run (.accumKeeps _ rfl rfl rfl rfl)
  · rw [State.distanceCount_gap hb hgap]
    exact Act.after (.tally _ OwnTallies.bounded_distanceGaps) (Act.run (.accumKeeps _ rfl rfl rfl rfl))
  · rw [State.distanceCount_delta hb hle]
    rcases Nat.eq_zero_or_pos ((s.acc.distRes + (count - b).toNat * 1000) / s.cal.kDist) with hm | hm
    · rw [State.distanceDelta_none hm]
      exact Act.run (.pulses count _ h hle)
    · rw [State.distanceDelta_metres hm]
      exact (State.countOdometer_acts ..).after (Act.run (.metres count _ h hle))

theorem State.fuelCount_acts {s : State} (count : Word) (rebound : Bool) (h : s.pw.state ≠ .load) :
    Acts s (s.fuelCount count rebound) := by
  obtain hbase | ⟨b, rfl, hb, hgap | hle⟩ := countResult_cases s.acc.fuelBase count rebound
  · rw [State.fuelCount_rebase hbase]
    exact Act.run (.accumKeeps _ rfl rfl rfl rfl)
  · rw [State.fuelCount_gap hb hgap]
    exact Act.after (.tally _ OwnTallies.bounded_fuelGaps) (Act.run (.accumKeeps _ rfl rfl rfl rfl))
  · rw [State.fuelCount_delta hb hle]
    rcases Nat.eq_zero_or_pos ((s.acc.fuelRes + (count - b).toNat * 1000) / s.cal.kFuel) with hm | hm
    · rw [State.fuelDelta_none hm]
      exact Act.run (.fuelPulses count _ h hle)
    · rw [State.fuelDelta_millilitres hm]
      exact Act.run (.millilitres count _ h hle)

/-! ## Signal frames -/

theorem Signals.hdr_setHdr (t : Signals) (k j : SignalKind) (h : SigHeader) :
    (t.setHdr k h).hdr j = if j = k then h else t.hdr j := by
  cases k <;> cases j <;> rfl

theorem Signals.hdr_takeFields (t : Signals) (k j : SignalKind) (f : Frame) : (t.takeFields k f).hdr j = t.hdr j := by
  cases k <;> rfl

theorem Trip.RecordsInRange.senderValue {t : Trip} (p : Power) (x : Nat) (h : t.RecordsInRange) :
    (t.senderValue p x).RecordsInRange := by
  obtain ⟨ha, hb, hsnapA, hsnapB, hdist, hfuel⟩ := h
  unfold Trip.senderValue
  (repeat' split) <;> exact ⟨ha, hb, hsnapA, hsnapB, hdist, hfuel⟩

/-- A sender value of one byte keeps the filter within 255 × 256 (R39 to R41). -/
theorem Trip.FilterInRange.senderValue {t : Trip} (p : Power) {x : Nat} (hx : x ≤ 255) (h : t.FilterInRange) :
    (t.senderValue p x).FilterInRange := by
  obtain ⟨hf, hfill⟩ := h
  have hstep : filterStep t.f x ≤ 65280 := by
    unfold filterStep
    dsimp only
    split_ifs <;> omega
  have htaken : x * 256 ≤ 65280 := by omega
  unfold Trip.senderValue
  (repeat' split) <;> exact ⟨by assumption, hfill⟩

theorem State.handOver_acts {s : State} (k : SignalKind) (f : Stored) (rebound : Bool) (h : s.pw.state ≠ .load) :
    Acts s (s.handOver k f rebound) := by
  cases k with
  | engine => exact State.fuelCount_acts _ _ h
  | chassis => exact State.distanceCount_acts _ _ h
  | body => exact .same s
  | fuelLevel =>
    unfold State.handOver
    dsimp only
    split
    · exact .same s
    · have hbyte := (f.frame.byte 1).isLt
      exact Act.run (.trip _ (Trip.RecordsInRange.senderValue _ _) (Trip.FilterInRange.senderValue _ (by omega)))

/-- A frame from an ABSENT station is never accepted (R9). -/
theorem present_of_accept {h : SigHeader} {required : Nat} {absent : Bool} {f : Frame} {rebound : Bool}
    (hverdict : signalVerdict h required absent f = .accept rebound) : absent = false := by
  cases absent with
  | false => rfl
  | true => simp [signalVerdict] at hverdict

theorem State.signalFrame_acts {s : State} (k : SignalKind) (f : Stored) (h : s.pw.state ≠ .load) :
    Acts s (s.signalFrame k f) := by
  unfold State.signalFrame
  split
  · exact .same s
  · exact Act.run (.tally _ OwnTallies.bounded_foreignFrames)
  · rename_i rebound hverdict
    have hpresent := present_of_accept hverdict
    have hbound : ((s.sig.takeFields k f.frame).setHdr k (acceptedHeader f rebound)).BoundFrom s := by
      intro j hheld
      rw [Signals.hdr_setHdr, Signals.hdr_takeFields] at hheld ⊢
      split
      · exact .inr ⟨_, rfl, hpresent⟩
      · rename_i hj
        rw [if_neg hj] at hheld
        exact .inl ⟨hheld, rfl⟩
    exact Acts.after (State.handOver_acts k f rebound (by simpa using h)) (Act.run (.signals _ hbound))

/-! ## Warnings -/

theorem Warning.edgeStep_cfg (e : Warning) : e.edgeStep.cfg = e.cfg := by
  unfold Warning.edgeStep
  split <;> rfl

section
variable {s : State} {n : Nat} {e e' : Warning}

/-- An entry stored with its state unchanged. -/
theorem Acts.storeSame (he : s.warn.entry n = some e) (hcfg : e'.cfg = e.cfg) (hstate : e'.state = e.state) :
    Acts s (s.setWarn (s.warn.setEntry n e')) :=
  Act.run (.entry n e e' he hcfg (fun h => .inl (hstate.trans h)) fun _ => hstate)

/-- An entry that is not ACTIVE stored in any state. -/
theorem Acts.storeInactive (he : s.warn.entry n = some e) (hcfg : e'.cfg = e.cfg) (hinactive : e.state ≠ .active)
    (hawake : s.pw.state ≠ .sleep) : Acts s (s.setWarn (s.warn.setEntry n e')) :=
  Act.run (.entry n e e' he hcfg (fun h => absurd h hinactive) fun h => absurd h hawake)

variable (hp : s.pw.state = .standby ∨ s.pw.state = .active)
include hp

theorem awake_of_evaluating : s.pw.state ≠ .sleep := by
  rcases hp with h | h <;> simp [h]

theorem State.evalLevel_acts (he : s.warn.entry n = some e) (hcfg : e'.cfg = e.cfg) (hstate : e'.state = e.state)
    (cond : Bool) : Acts s (s.evalLevel n e' cond) := by
  have hawake := awake_of_evaluating hp
  unfold State.evalLevel
  split
  case h_1 => exact .storeSame he hcfg hstate
  case h_2 hq =>
    have hinactive : e.state ≠ .active := by simp [← hstate, hq]
    split
    · exact Act.run (.raise n e e' he hcfg hinactive hp)
    · exact .storeInactive he hcfg hinactive hawake
  case h_3 hq =>
    have hinactive : e.state ≠ .active := by simp [← hstate, hq]
    split
    · exact Act.run (.raise n e e' he hcfg hinactive hp)
    · exact .storeInactive he hcfg hinactive hawake
  case h_4 hq => exact .storeInactive he hcfg (by simp [← hstate, hq]) hawake
  case h_5 => exact .storeSame he hcfg hstate
  case h_6 => exact Act.run (.silence n e _ he hcfg hawake)
  case h_7 => exact .storeSame he hcfg hstate
  case h_8 hq => exact .storeInactive he hcfg (by simp [← hstate, hq]) hawake

theorem State.evalEdge_acts (he : s.warn.entry n = some e) (hcfg : e'.cfg = e.cfg) (hstate : e'.state = e.state)
    (last : Option Bool) (cond : Bool) : Acts s (s.evalEdge n e' last cond) := by
  have hawake := awake_of_evaluating hp
  have hstep : Acts s (s.setWarn (s.warn.setEntry n (if s.chime.holds n then e' else e'.edgeStep))) := by
    split
    · exact .storeSame he hcfg hstate
    · rename_i hfree
      exact Act.run (.entry n e _ he (e'.edgeStep_cfg.trans hcfg) (fun _ => .inr (by simpa using hfree))
        fun h => absurd h hawake)
  unfold State.evalEdge
  split
  case h_1 hq =>
    split
    · exact Act.run (.raise n e e' he hcfg (by simp [← hstate, hq]) hp)
    · exact .storeSame he hcfg hstate
  case h_2 => exact .storeSame he hcfg hstate
  case h_3 => exact hstep
  case h_4 => exact hstep

theorem State.evalEntry_acts (he : s.warn.entry n = some e) (cond : Bool) : Acts s (s.evalEntry n e cond) := by
  unfold State.evalEntry
  dsimp only
  split
  · split
    · exact State.evalEdge_acts hp he (by rfl) (by rfl) e.last cond
    · exact State.evalLevel_acts hp he (by rfl) (by rfl) cond
  · split
    · exact .storeSame he rfl rfl
    · exact Act.run (.silence n e _ he rfl (awake_of_evaluating hp))

end


end Sys2Proof.Machine
end

section
/-! PROOFS. The ticks, the keys and the changes of power state as runs of elementary changes. -/

namespace Sys2Proof.Machine

/-! ## The parts of a trip tick -/

theorem evaluates_iff (p : Power) : evaluates p = true ↔ p = .standby ∨ p = .active := by
  simp [evaluates]

theorem State.evalPosition_acts (s at0 : State) (call : Bool) (n : Nat)
    (hp : s.pw.state = .standby ∨ s.pw.state = .active) : Acts s (State.evalPosition at0 call s n) := by
  unfold State.evalPosition
  split
  · exact .same s
  · rename_i e he
    exact State.evalEntry_acts hp he _

theorem State.evalPosition_pw (s at0 : State) (call : Bool) (n : Nat) : (State.evalPosition at0 call s n).pw = s.pw := by
  unfold State.evalPosition
  split <;> simp

/-- The positions treated one after another (R87). -/
theorem State.evalPositions_acts (at0 : State) (call : Bool) (ns : List Nat) (s : State)
    (hp : s.pw.state = .standby ∨ s.pw.state = .active) : Acts s (ns.foldl (State.evalPosition at0 call) s) := by
  induction ns generalizing s with
  | nil => exact .same s
  | cons n rest ih =>
    exact (ih _ (by rwa [State.evalPosition_pw])).after (State.evalPosition_acts s at0 call n hp)

theorem State.evaluateTick_acts (s : State) : Acts s s.evaluateTick := by
  unfold State.evaluateTick
  split
  · rename_i hruns
    have hp := (evaluates_iff _).mp hruns
    exact (State.evalPositions_acts _ _ _ (s.sampleWarnings s.pins.sense) (by simpa using hp)).after
      (Act.run (.warn _ rfl id))
  · exact .same s

theorem State.checkStations_acts (now : Nat) (ns : List Nat) (s : State) :
    Acts s (ns.foldl (State.checkStation now) s) := by
  induction ns generalizing s with
  | nil => exact .same s
  | cons n rest ih =>
    refine (ih _).after ?_
    unfold State.checkStation
    split
    · exact Act.run (.markAbsent _)
    · exact .same s

/-- Ageing changes the freshness of an entry alone (R13). -/
theorem Signals.hdr_ageAll (t : Signals) (now : Nat) (k : SignalKind) :
    (t.ageAll now).hdr k =
      { t.hdr k with fresh := agedFreshness k (t.hdr k).fresh (ageOf now (t.hdr k).arrival) } := by
  cases k <;> rfl

/-- What ageing leaves held was held before (R13). -/
theorem held_of_aged {k : SignalKind} {f : Freshness} {age : Nat} (h : (agedFreshness k f age).held = true) :
    f.held = true := by
  cases hheld : f.held with
  | true => rfl
  | false => simp [agedFreshness, hheld] at h

theorem State.rotationTick_acts (s : State) : Acts s s.rotationTick := by
  refine Act.run (.readout _ ⟨?_, ?_, ?_⟩ ?_)
  case refine_3 =>
    rintro ⟨hhour, hminute, hsecond, hday, hcount⟩
    unfold Readout.rotate
    split
    · split
      · exact ⟨hhour, hminute, hsecond, hday, Nat.zero_le _⟩
      · rename_i hwaits
        exact ⟨hhour, hminute, hsecond, hday, Nat.le_of_lt_succ (Nat.lt_of_not_le hwaits)⟩
    · exact ⟨hhour, hminute, hsecond, hday, hcount⟩
  all_goals
    unfold Readout.rotate
    (repeat' split) <;> rfl

theorem Trip.FilterInRange.setFastFill {t : Trip} {n : Nat} (hn : t.FilterInRange → n ≤ 30) (h : t.FilterInRange) :
    ({ t with fastFill := n } : Trip).FilterInRange := ⟨h.1, hn h⟩

theorem Trip.RecordsInRange.setFastFill {t : Trip} {n : Nat} (h : t.RecordsInRange) :
    ({ t with fastFill := n } : Trip).RecordsInRange := by
  obtain ⟨ha, hb, hsnapA, hsnapB, hdist, hfuel⟩ := h
  exact ⟨ha, hb, hsnapA, hsnapB, hdist, hfuel⟩

theorem State.setFastFill_acts {s : State} {n : Nat} (hn : s.trip.FilterInRange → n ≤ 30) : Acts s (s.setFastFill n) :=
  Act.run (.trip _ Trip.RecordsInRange.setFastFill (Trip.FilterInRange.setFastFill hn))

theorem State.fastFillTick_acts (s : State) : Acts s s.fastFillTick := by
  unfold State.fastFillTick
  split
  · exact State.setFastFill_acts fun h => (Nat.sub_le ..).trans h.2
  · exact .same s

theorem State.composeTick_acts (s : State) : Acts s s.composeTick := by
  unfold State.composeTick
  split
  · exact Act.run .compose
  · exact .same s

theorem State.flashTick_acts (s : State) : Acts s s.flashTick :=
  Act.run (.warn _ rfl fun _ => Nat.le_of_lt_succ (Nat.mod_lt _ (by decide)))

theorem State.tripTick_acts (s : State) : Acts s s.tripTick := by
  unfold State.tripTick
  dsimp only
  refine (State.composeTick_acts _).after <| (State.rotationTick_acts _).after <| (State.fastFillTick_acts _).after <|
    (State.evaluateTick_acts _).after <| (State.flashTick_acts _).after <| Act.after (.signals _ ?_) <|
    (State.checkStations_acts ..).after <| Act.run (.accumKeeps _ rfl rfl rfl rfl)
  intro k hheld
  rw [Signals.hdr_ageAll] at hheld ⊢
  exact .inl ⟨held_of_aged hheld, rfl⟩

/-! ## The clock and the day counter -/

section
variable {s : State} {r : Readout}

/-- A change of the clock's hour, minute and second. -/
theorem Acts.setTime (hmessage : r.message = s.readout.message) (hbright : r.brightness = s.readout.brightness)
    (hday : r.day = s.readout.day) (hrange : s.readout.InRange → r.InRange) : Acts s (s.setReadout r) :=
  Act.run (.readout r ⟨hmessage, hbright, hrange⟩ hday)

end

theorem State.dayStep_acts (s : State) : Acts s s.dayStep := by
  unfold State.dayStep
  split
  · rename_i hday
    refine Act.after (t := State.evaluateItems (s.setReadout { s.readout with day := s.readout.day + 1 })) .writeCounters
      (Act.run (.day _ ⟨rfl, rfl, ?_⟩))
    rintro ⟨hhour, hminute, hsecond, -, hcount⟩
    exact ⟨hhour, hminute, hsecond, hday, hcount⟩
  · exact .same s

theorem State.clockHour_acts (s : State) : Acts s s.clockHour := by
  unfold State.clockHour
  split
  · rename_i hhour
    refine .setTime rfl rfl rfl ?_
    rintro ⟨-, hminute, hsecond, hday, hcount⟩
    exact ⟨hhour, hminute, hsecond, hday, hcount⟩
  · refine (State.dayStep_acts _).after (.setTime rfl rfl rfl ?_)
    rintro ⟨-, hminute, hsecond, hday, hcount⟩
    exact ⟨Nat.zero_le _, hminute, hsecond, hday, hcount⟩

theorem State.clockMinute_acts (s : State) : Acts s s.clockMinute := by
  unfold State.clockMinute
  split
  · rename_i hminute
    refine .setTime rfl rfl rfl ?_
    rintro ⟨hhour, -, hsecond, hday, hcount⟩
    exact ⟨hhour, hminute, hsecond, hday, hcount⟩
  · refine (State.clockHour_acts _).after (.setTime rfl rfl rfl ?_)
    rintro ⟨hhour, -, hsecond, hday, hcount⟩
    exact ⟨hhour, Nat.zero_le _, hsecond, hday, hcount⟩

theorem State.sendClock_acts (s : State) : Acts s s.sendClock := by
  unfold State.sendClock
  split
  · exact s.sendFrame_acts ..
  · exact .same s

theorem State.clockSecond_acts (s : State) : Acts s s.clockSecond := by
  unfold State.clockSecond
  split
  · rename_i hsecond
    refine .setTime rfl rfl rfl ?_
    rintro ⟨hhour, hminute, -, hday, hcount⟩
    exact ⟨hhour, hminute, hsecond, hday, hcount⟩
  · refine (State.sendClock_acts _).after ((State.clockMinute_acts _).after (.setTime rfl rfl rfl ?_))
    rintro ⟨hhour, hminute, -, hday, hcount⟩
    exact ⟨hhour, hminute, Nat.zero_le _, hday, hcount⟩

/-! ## The other parts of a 1 s tick -/

theorem State.tenthStep_acts (s : State) : Acts s s.tenthStep := by
  unfold State.tenthStep
  dsimp only
  split
  · rename_i hlt
    have hcounts : s.service.Counts { s.service with seconds := 0, hours := s.service.hours + 1 } :=
      ⟨rfl, fun _ => ⟨hlt, Nat.zero_le _⟩⟩
    split
    · exact Act.writeCounters.after (Act.run (.hour _ hcounts))
    · rename_i hwhole
      exact Act.run (.service _ hcounts (by simpa [Service.wholeHours] using hwhole))
  · exact Act.run (.service _ ⟨rfl, fun h => ⟨h.1, Nat.zero_le _⟩⟩ rfl)

theorem State.engineSecond_acts (s : State) : Acts s s.engineSecond := by
  unfold State.engineSecond
  split
  · split
    · exact s.tenthStep_acts
    · exact Act.run (.service _ ⟨rfl, fun h => ⟨h.1, by dsimp only; omega⟩⟩ rfl)
  · exact .same s

theorem TripRecord.inRange_zero : TripRecord.zero.inRange := by simp [TripRecord.inRange, TripRecord.zero]

/-- An addition within the maxima leaves a record and its snapshot in range (R35). -/
theorem recordAdd_inRange {r snap : TripRecord} {d f e : Nat} (hd : d ≤ 9999999) (hf : f ≤ 999999) (he : e ≤ 359999)
    (hr : r.inRange) (hsnap : snap.inRange) :
    (recordAdd r snap d f e).1.inRange ∧ (recordAdd r snap d f e).2.inRange := by
  unfold recordAdd
  split
  · exact ⟨by assumption, hsnap⟩
  · exact ⟨⟨hd, hf, he⟩, hr⟩

theorem Trip.RecordsInRange.add {t : Trip} {d f e : Nat} (hd : d ≤ 9999999) (hf : f ≤ 999999) (he : e ≤ 359999)
    (h : t.RecordsInRange) : (t.add d f e).RecordsInRange := by
  obtain ⟨ha, hb, hsnapA, hsnapB, hdist, hfuel⟩ := h
  obtain ⟨ha', hsnapA'⟩ := recordAdd_inRange hd hf he ha hsnapA
  obtain ⟨hb', hsnapB'⟩ := recordAdd_inRange hd hf he hb hsnapB
  exact ⟨ha', hb', hsnapA', hsnapB', hdist, hfuel⟩

theorem State.elapsedSecond_acts (s : State) : Acts s s.elapsedSecond := by
  unfold State.elapsedSecond
  split
  · exact Act.run (.trip _ (Trip.RecordsInRange.add (by decide) (by decide) (by decide)) id)
  · exact .same s

theorem WarnUnit.endLampTest_table (w : WarnUnit) (now : Nat) :
    (w.endLampTest now).table = w.table ∧ (w.endLampTest now).flash = w.flash := by
  unfold WarnUnit.endLampTest
  (repeat' split) <;> exact ⟨rfl, rfl⟩

theorem State.warningSecond_acts (s : State) : Acts s s.warningSecond := by
  obtain ⟨htable, hflash⟩ := (s.warn.expireMarks s.pw.time).endLampTest_table s.pw.time
  exact Act.after (s := s) (t := s.setWarn (s.warn.expireMarks s.pw.time)) (.warn _ htable hflash.le.trans)
    (Act.run (.marks _))

theorem PowerUnit.settle_sameDuty (p : PowerUnit) (awake : Bool) : p.SameDuty (p.settle awake) := by
  unfold PowerUnit.settle
  (repeat' split) <;> exact ⟨rfl, rfl, rfl, rfl, id, id, id⟩

theorem State.beginReturn_acts (s : State) : Acts s s.beginReturn :=
  Act.writeOdometer.after (Act.writeCounters.after (Act.writeTrip.after
    (Act.run (.power _ ⟨rfl, rfl, rfl, rfl, id, id, id⟩))))

theorem State.keepAliveSecond_acts (s : State) : Acts s s.keepAliveSecond := by
  have hsettle : Acts s (s.setPw (s.pw.settle (keepAwake s))) := Act.run (.power _ (PowerUnit.settle_sameDuty ..))
  unfold State.keepAliveSecond
  dsimp only
  split
  · exact hsettle
  · split
    · exact (State.beginReturn_acts _).after hsettle
    · exact Act.after (.power _ ⟨rfl, rfl, rfl, rfl, id, id, id⟩) hsettle

theorem State.secondTick_acts (s : State) : Acts s s.secondTick :=
  (State.keepAliveSecond_acts _).after <| (State.unknownSecond_acts _).after <| (State.warningSecond_acts _).after <|
    (State.elapsedSecond_acts _).after <| (State.engineSecond_acts _).after s.clockSecond_acts

theorem State.heartbeat_acts (s : State) : Acts s s.heartbeat := by
  unfold State.heartbeat
  split
  · exact .same s
  · exact (State.sendFrame_acts ..).after (Act.run (.peer _ rfl))

/-- What follows from every command at once (R98, R172, R173). -/
theorem State.finish_acts (s : State) : Acts s s.finish :=
  Act.after (.power _ (PowerUnit.settle_sameDuty ..)) (Act.run (.warn _ rfl id))

theorem State.advanceTo_acts (s : State) (t : Nat) : Acts s (s.advanceTo t) :=
  Act.run (.power _ ⟨rfl, rfl, rfl, rfl, id, id, id⟩)

/-! ## Changes of power state -/

theorem State.startUnknownTimer_acts (s : State) : Acts s s.startUnknownTimer := by
  unfold State.startUnknownTimer
  split
  · exact Act.run (.accumKeeps _ rfl rfl rfl rfl)
  · exact .same s

theorem State.startLampTest_acts (s : State) : Acts s s.startLampTest := Act.run (.warn _ rfl id)

theorem State.enterCrank_acts {s : State} (h : s.pw.state = .active) : Acts s s.enterCrank :=
  Act.compose.after ((State.setFastFill_acts (n := 0) fun _ => Nat.zero_le _).after (Act.run (.crank h)))

theorem State.crankIfStart_acts {s : State} (h : s.pw.state = .active) : Acts s s.crankIfStart := by
  unfold State.crankIfStart
  split
  · exact State.enterCrank_acts h
  · exact .same s

end Sys2Proof.Machine
end

section
/-! PROOFS. A request to send reads and changes the Line Port, the Peer Supervisor and the tallies alone, so it commutes with
changes of the other blocks; with that the changes of power state as runs of elementary changes. -/

namespace Sys2Proof.Machine

/-! ## The line side of the state -/

/-- A state with the Line Port, the Peer Supervisor and the tallies of another. -/
def State.withLineOf (b s : State) : State := { b with line := s.line, peer := s.peer, tally := s.tally }

theorem State.withLineOf_self (s : State) : s.withLineOf s = s := rfl

theorem State.queueFrame_withLineOf (b s : State) (r : TxResult) :
    (b.withLineOf s).queueFrame r = b.withLineOf (s.queueFrame r) := by
  unfold State.queueFrame
  split <;> rfl

theorem sendReports_withLineOf (parts : List (Nat × Nat)) (b s : State) :
    sendReports parts (b.withLineOf s) = b.withLineOf (sendReports parts s) := by
  induction parts generalizing s with
  | nil => rfl
  | cons p rest ih =>
    unfold sendReports
    dsimp only
    rw [show (b.withLineOf s).line = s.line from rfl, show (b.withLineOf s).peer = s.peer from rfl,
      State.queueFrame_withLineOf]
    split
    · exact ih _
    · rfl

theorem State.departure_withLineOf (b s : State) (kind : BitVec 5) :
    (b.withLineOf s).departure kind = b.withLineOf (s.departure kind) := by
  unfold State.departure
  split
  · exact sendReports_withLineOf ..
  · rfl

/-- What a request to send does on the line side does not depend on the rest of the state (R153). -/
theorem State.sendFrame_withLineOf (b s : State) (kind : BitVec 5) (subject : Option Nat) (data : List Byte) :
    (b.withLineOf s).sendFrame kind subject data = b.withLineOf (s.sendFrame kind subject data) := by
  unfold State.sendFrame
  dsimp only
  rw [show (b.withLineOf s).line = s.line from rfl, State.queueFrame_withLineOf]
  split
  · exact State.departure_withLineOf ..
  · rfl

/-- A request to send leaves everything off the line side (R153). -/
theorem State.sendFrame_eq_withLineOf (s : State) (kind : BitVec 5) (subject : Option Nat) (data : List Byte) :
    s.sendFrame kind subject data = s.withLineOf (s.sendFrame kind subject data) :=
  s.sendFrame_withLineOf s kind subject data

/-- A request to send and a change of the tone commute. -/
theorem State.sendFrame_setChime (s : State) (c : Chimes) (kind : BitVec 5) (subject : Option Nat) (data : List Byte) :
    (s.setChime c).sendFrame kind subject data = (s.sendFrame kind subject data).setChime c :=
  (State.sendFrame_withLineOf (s.setChime c) s kind subject data).trans
    (congrArg (State.setChime · c) (s.sendFrame_eq_withLineOf kind subject data).symm)

/-! ## Entries to ACTIVE, STANDBY and CRANK (R170) -/

theorem State.startUnknownTimer_setChime (s : State) (c : Chimes) :
    (s.setChime c).startUnknownTimer = s.startUnknownTimer.setChime c := by
  unfold State.startUnknownTimer
  rw [show (s.setChime c).acc = s.acc from rfl]
  split <;> rfl

theorem State.requestOdometer_setChime (s : State) (c : Chimes) :
    (s.setChime c).requestOdometer = s.requestOdometer.setChime c := by
  unfold State.requestOdometer
  rw [show (s.setChime c).acc = s.acc from rfl]
  split <;> rfl

/-- The entry to ACTIVE with the tone taken first: every later part leaves the tone alone. -/
theorem State.activeEntry_announce_awakenTone (s : State) :
    s.activeEntry.announce.awakenTone =
      (((((s.setPower .active).awakenTone).setFastFill 30).startLampTest).startUnknownTimer).announce := by
  have htime : s.activeEntry.pw.time = s.pw.time := by simp [State.activeEntry, State.setPower]
  calc s.activeEntry.announce.awakenTone
      = s.activeEntry.announce.setChime (s.chime.awaken s.pw.time) := by simp [State.awakenTone, htime]
    _ = (s.activeEntry.setChime (s.chime.awaken s.pw.time)).announce :=
        (State.sendFrame_setChime s.activeEntry _ _ _ _).symm
    _ = _ := by
        unfold State.activeEntry
        rw [← State.startUnknownTimer_setChime]
        rfl

/-- The entry to STANDBY with the tone taken first. -/
theorem State.standbyEntry_awakenTone (s : State) :
    s.standbyEntry.awakenTone = (((s.setPower .standby).awakenTone).setFastFill 0).requestOdometer := by
  have htime : s.standbyEntry.pw.time = s.pw.time := by
    unfold State.standbyEntry State.requestOdometer
    split <;> rfl
  calc s.standbyEntry.awakenTone
      = s.standbyEntry.setChime (s.chime.awaken s.pw.time) := by simp [State.awakenTone, htime]
    _ = _ := by
        unfold State.standbyEntry
        rw [← State.requestOdometer_setChime]
        rfl

section
variable {s : State}

theorem State.enterActiveFresh_acts (h : s.Starting) : Acts s s.enterActiveFresh := by
  unfold State.enterActiveFresh
  rw [State.activeEntry_announce_awakenTone]
  refine (State.crankIfStart_acts (by simp [State.setPower])).after (Act.compose.after ?_)
  exact (State.announce_acts _).after <| (State.startUnknownTimer_acts _).after <| (State.startLampTest_acts _).after <|
    (State.setFastFill_acts fun _ => le_rfl).after <| Act.run (.sound _ (.inl h) (.inr rfl))

theorem State.enterStandbyTone_acts (h : s.Starting ∨ s.pw.state = .crank) : Acts s s.enterStandbyTone := by
  unfold State.enterStandbyTone
  rw [State.standbyEntry_awakenTone]
  exact Act.compose.after <| Act.writeOdometer.after <| (State.setFastFill_acts fun _ => Nat.zero_le _).after <|
    Act.run (.sound _ h (.inl rfl))

theorem State.enterByRun_acts (h : s.Starting) : Acts s s.enterByRun := by
  unfold State.enterByRun
  split
  · exact State.enterActiveFresh_acts h
  · exact State.enterStandbyTone_acts (.inl h)

theorem State.enterActiveStandby_acts (h : s.pw.state = .standby) : Acts s s.enterActiveStandby :=
  (State.crankIfStart_acts (by simp [State.activeEntry, State.setPower])).after <| Act.compose.after <|
    (State.startUnknownTimer_acts _).after <| (State.startLampTest_acts _).after <|
    (State.setFastFill_acts fun _ => le_rfl).after <| Act.run (.turn _ (.inl h) (.inr rfl))

theorem State.enterStandbyActive_acts (h : s.pw.state = .active) : Acts s s.enterStandbyActive :=
  Act.compose.after <| Act.writeOdometer.after <| (State.setFastFill_acts fun _ => Nat.zero_le _).after <|
    Act.run (.turn _ (.inr h) (.inl rfl))

theorem State.enterActiveCrank_acts (h : s.pw.state = .crank) : Acts s s.enterActiveCrank :=
  Act.compose.after (Act.run (.sound _ (.inr h) (.inr rfl)))

/-! ## The wake (R15, R23, R64, R164) -/

theorem loseFreshness_not_held (f : Freshness) : (loseFreshness f).held = false := by
  cases f <;> rfl

theorem Signals.wake_not_held (t : Signals) (k : SignalKind) : (t.wake.hdr k).fresh.held = false := by
  cases k <;> exact loseFreshness_not_held _

theorem Channel.moves_tick_zero (c : Channel) : c.Moves { c with tick := 0 } :=
  ⟨rfl, fun h => ⟨h.1, (Nat.zero_le _).trans_lt h.2⟩, id⟩

theorem State.wake_acts (h : s.pw.state = .sleep) : Acts s s.wake := by
  unfold State.wake
  dsimp only
  refine Act.compose.after <| Act.after (.gauges _ ?_ ?_) <| Act.after (.accumKeeps _ rfl rfl rfl rfl) <|
    Act.after (.stationsWake ?_) <| Act.after (.signals _ ?_) <| Act.after (.line _ ?_ rfl rfl) <|
    Act.run (.stabilise h)
  case refine_1 => simp [PowerUnit.wake]
  case refine_2 =>
    intro c hc
    obtain ⟨b, hb, rfl⟩ := List.mem_map.mp hc
    exact ⟨b, hb, b.moves_tick_zero⟩
  case refine_3 => exact Signals.wake_not_held _
  case refine_4 =>
    intro k hheld
    simp [Signals.wake_not_held] at hheld
  case refine_5 => simp [PowerUnit.wake]

end

/-! ## Keys -/

theorem State.keyClick_acts (s : State) : Acts s s.keyClick := Act.run (.click false)

theorem State.refusalClick_acts (s : State) : Acts s s.refusalClick := Act.run (.click true)

theorem State.acceptKey_acts (s : State) : Acts s s.acceptKey := (State.keyClick_acts _).after (Act.run .compose)

/-- A key that changes a selection is accepted (R138). -/
theorem State.select_acts (s : State) {r : Readout} (hmessage : r.message = s.readout.message)
    (hbright : r.brightness = s.readout.brightness) (hday : r.day = s.readout.day)
    (hrange : s.readout.InRange → r.InRange) : Acts s (s.setReadout r).acceptKey :=
  (State.acceptKey_acts _).after (.setTime hmessage hbright hday hrange)

theorem Readout.InRange.restart {r : Readout} (h : r.InRange) : ({ r with rotCount := 0 } : Readout).InRange := by
  obtain ⟨hhour, hminute, hsecond, hday, -⟩ := h
  exact ⟨hhour, hminute, hsecond, hday, Nat.zero_le _⟩

theorem State.turnTo_acts (s : State) (p : Page) : Acts s (s.setReadout (s.readout.turnTo p)).acceptKey := by
  unfold Readout.turnTo
  split
  · exact s.select_acts rfl rfl rfl Readout.InRange.restart
  · exact s.select_acts rfl rfl rfl id

theorem State.pageNextKey_acts (s : State) : Acts s s.pageNextKey := by
  unfold State.pageNextKey
  split
  · exact s.turnTo_acts _
  · exact .same s

theorem State.pageBackKey_acts (s : State) : Acts s s.pageBackKey := by
  unfold State.pageBackKey
  split
  · exact s.turnTo_acts _
  · exact .same s

theorem State.tripSelectKey_acts (s : State) : Acts s s.tripSelectKey := by
  unfold State.tripSelectKey
  split
  · exact s.select_acts rfl rfl rfl Readout.InRange.restart
  · exact .same s

theorem State.odoSelectKey_acts (s : State) : Acts s s.odoSelectKey := by
  unfold State.odoSelectKey
  split
  · exact s.select_acts rfl rfl rfl id
  · exact .same s

theorem recordReset_inRange {r snap : TripRecord} (hr : r.inRange) (hsnap : snap.inRange) :
    (recordReset r snap).1.inRange ∧ (recordReset r snap).2.inRange := by
  unfold recordReset
  split
  · exact ⟨hr, hsnap⟩
  · exact ⟨TripRecord.inRange_zero, hr⟩

theorem Trip.RecordsInRange.reset {t : Trip} (sel : TripSel) (h : t.RecordsInRange) : (t.reset sel).RecordsInRange := by
  obtain ⟨ha, hb, hsnapA, hsnapB, hdist, hfuel⟩ := h
  obtain ⟨ha', hsnapA'⟩ := recordReset_inRange ha hsnapA
  obtain ⟨hb', hsnapB'⟩ := recordReset_inRange hb hsnapB
  cases sel with
  | a => exact ⟨ha', hb, hsnapA', hsnapB, hdist, hfuel⟩
  | b => exact ⟨ha, hb', hsnapA, hsnapB', hdist, hfuel⟩

theorem Trip.FilterInRange.reset {t : Trip} (sel : TripSel) (h : t.FilterInRange) : (t.reset sel).FilterInRange := by
  cases sel <;> exact h

theorem State.tripResetKey_acts (s : State) : Acts s s.tripResetKey := by
  unfold State.tripResetKey
  split
  · split
    · exact (State.acceptKey_acts _).after
        (Act.run (.trip _ (Trip.RecordsInRange.reset _) (Trip.FilterInRange.reset _)))
    · exact s.refusalClick_acts
  · exact .same s

theorem State.hourKey_acts (s : State) : Acts s s.hourKey := by
  unfold State.hourKey
  split
  · refine (State.sendClock_acts _).after (s.select_acts rfl rfl rfl ?_)
    rintro ⟨-, hminute, hsecond, hday, hcount⟩
    exact ⟨Nat.le_of_lt_succ (Nat.mod_lt _ (by decide)), hminute, hsecond, hday, hcount⟩
  · exact .same s

theorem State.minuteKey_acts (s : State) : Acts s s.minuteKey := by
  unfold State.minuteKey
  split
  · refine (State.sendClock_acts _).after (s.select_acts rfl rfl rfl ?_)
    rintro ⟨hhour, -, -, hday, hcount⟩
    exact ⟨hhour, Nat.le_of_lt_succ (Nat.mod_lt _ (by decide)), Nat.zero_le _, hday, hcount⟩
  · exact .same s

theorem State.acknowledgeForemost_acts (s : State) (hawake : s.pw.state ≠ .sleep) : Acts s s.acknowledgeForemost := by
  unfold State.acknowledgeForemost
  split
  · exact .same s
  · split
    · exact .same s
    · rename_i e he
      split
      · exact (State.sendFrame_acts ..).after (Act.run (.silence _ e _ he rfl hawake))
      · exact .same s

theorem State.acknowledgeKey_acts (s : State) : Acts s s.acknowledgeKey := by
  unfold State.acknowledgeKey
  split
  · rename_i hp
    exact (State.keyClick_acts _).after (s.acknowledgeForemost_acts (awake_of_evaluating hp))
  · exact .same s

theorem State.resetItem_acts (s : State) (item : Nat) : Acts s (s.resetItem item) :=
  (State.sendFrame_acts ..).after <| Act.writeService.after <| Act.writeOdometer.after <|
    Act.run (.rebase _ _ _ _ le_rfl)

theorem State.serviceResetKey_acts (s : State) (item : Nat) : Acts s (s.serviceResetKey item) := by
  unfold State.serviceResetKey
  split
  · split
    · exact (State.keyClick_acts _).after (s.resetItem_acts item)
    · exact s.refusalClick_acts
  · exact .same s

theorem State.callKey_acts (s : State) : Acts s s.callKey := by
  unfold State.callKey
  split
  · exact (State.keyClick_acts _).after (Act.run (.warn _ rfl id))
  · exact .same s

theorem State.keyFrame_acts (s : State) (f : Stored) {key : State → State} (hkey : ∀ u, Acts u (key u)) :
    Acts s (s.keyFrame f key) := by
  obtain h | h := keyFrame_cases s f key
  · rw [h]
  · rw [h]
    exact (hkey _).after (.setTime rfl rfl rfl id)

theorem State.testFrame_acts (s : State) (f : Frame) {effect : State → State} (heffect : Acts s (effect s)) :
    Acts s (s.testFrame f effect) := by
  obtain h | h := testFrame_cases s f effect
  · rw [h]
  · rwa [h]

end Sys2Proof.Machine
end

section
/-! PROOFS. The reading at the end of LOAD (R171): what each block's share leaves alone, and what the whole leaves in each
block. -/

namespace Sys2Proof.Machine

/-! ## The shares, one by one -/

@[simp] theorem State.takeCalibration_frame (s : State) (c : CalShares) :
    (s.takeCalibration c).pins = s.pins ∧ (s.takeCalibration c).mem = s.mem ∧ (s.takeCalibration c).sig = s.sig ∧
    (s.takeCalibration c).peer = s.peer ∧ (s.takeCalibration c).acc = s.acc ∧ (s.takeCalibration c).trip = s.trip ∧
    (s.takeCalibration c).chime = s.chime ∧ (s.takeCalibration c).readout = s.readout ∧
    (s.takeCalibration c).tally = s.tally ∧ (s.takeCalibration c).pending = s.pending ∧
    (s.takeCalibration c).idled = s.idled := by
  simp [State.takeCalibration]

@[simp] theorem State.takeOdometer_frame (s : State) (i : Image) :
    (s.takeOdometer i).pins = s.pins ∧ (s.takeOdometer i).mem = s.mem ∧ (s.takeOdometer i).cal = s.cal ∧
    (s.takeOdometer i).pw = s.pw ∧ (s.takeOdometer i).line = s.line ∧ (s.takeOdometer i).sig = s.sig ∧
    (s.takeOdometer i).peer = s.peer ∧ (s.takeOdometer i).trip = s.trip ∧ (s.takeOdometer i).gauges = s.gauges ∧
    (s.takeOdometer i).warn = s.warn ∧ (s.takeOdometer i).chime = s.chime ∧ (s.takeOdometer i).service = s.service ∧
    (s.takeOdometer i).readout = s.readout ∧ (s.takeOdometer i).tally = s.tally ∧
    (s.takeOdometer i).pending = s.pending ∧ (s.takeOdometer i).idled = s.idled := by
  unfold State.takeOdometer
  split <;> simp

@[simp] theorem State.takeCounters_frame (s : State) (i : Image) :
    (s.takeCounters i).pins = s.pins ∧ (s.takeCounters i).mem = s.mem ∧ (s.takeCounters i).cal = s.cal ∧
    (s.takeCounters i).pw = s.pw ∧ (s.takeCounters i).line = s.line ∧ (s.takeCounters i).sig = s.sig ∧
    (s.takeCounters i).peer = s.peer ∧ (s.takeCounters i).acc = s.acc ∧ (s.takeCounters i).trip = s.trip ∧
    (s.takeCounters i).gauges = s.gauges ∧ (s.takeCounters i).warn = s.warn ∧ (s.takeCounters i).chime = s.chime ∧
    (s.takeCounters i).tally = s.tally ∧ (s.takeCounters i).pending = s.pending ∧
    (s.takeCounters i).idled = s.idled := by
  simp [State.takeCounters]

@[simp] theorem State.takeTrip_frame (s : State) (i : Image) :
    (s.takeTrip i).pins = s.pins ∧ (s.takeTrip i).mem = s.mem ∧ (s.takeTrip i).cal = s.cal ∧
    (s.takeTrip i).pw = s.pw ∧ (s.takeTrip i).line = s.line ∧ (s.takeTrip i).sig = s.sig ∧
    (s.takeTrip i).peer = s.peer ∧ (s.takeTrip i).acc = s.acc ∧ (s.takeTrip i).gauges = s.gauges ∧
    (s.takeTrip i).warn = s.warn ∧ (s.takeTrip i).chime = s.chime ∧ (s.takeTrip i).service = s.service ∧
    (s.takeTrip i).readout = s.readout ∧ (s.takeTrip i).tally = s.tally ∧ (s.takeTrip i).pending = s.pending ∧
    (s.takeTrip i).idled = s.idled := by
  unfold State.takeTrip
  split <;> simp

/-- The items with their baselines, before they are evaluated: as saved, or where they stand now (R128). -/
def State.baselined (s : State) (i : Image) : List ServiceItem :=
  if i.valid serviceBase 24 then restoreItems i s.acc.odo s.service.items 0
  else s.service.items.map (fun x =>
    { x with odoBase := s.acc.odo, dayBase := s.readout.day, hoursBase := s.service.wholeHours })

/-- The share of the Service Unit: the items with their baselines, a SERVICE write where the area is invalid, and an
evaluation. -/
theorem State.takeService_eq (s : State) (i : Image) :
    s.takeService i =
      (if i.valid serviceBase 24 then s.setService { s.service with items := s.baselined i }
       else (s.setService { s.service with items := s.baselined i }).requestService).evaluateItems := by
  unfold State.takeService State.baselined
  split <;> rfl

@[simp] theorem State.takeService_frame (s : State) (i : Image) :
    (s.takeService i).pins = s.pins ∧ (s.takeService i).mem = s.mem ∧ (s.takeService i).cal = s.cal ∧
    (s.takeService i).line = s.line ∧ (s.takeService i).sig = s.sig ∧ (s.takeService i).peer = s.peer ∧
    (s.takeService i).acc = s.acc ∧ (s.takeService i).trip = s.trip ∧ (s.takeService i).gauges = s.gauges ∧
    (s.takeService i).warn = s.warn ∧ (s.takeService i).chime = s.chime ∧ (s.takeService i).readout = s.readout ∧
    (s.takeService i).tally = s.tally ∧ (s.takeService i).pending = s.pending ∧
    (s.takeService i).idled = s.idled := by
  rw [State.takeService_eq]
  split <;> simp [State.evaluateItems, State.requestService, State.requestWrite]

/-- The writes of the share of the Service Unit (R128). -/
theorem State.takeService_pw (s : State) (i : Image) :
    (s.takeService i).pw =
      (if i.valid serviceBase 24 then s.pw
       else { s.pw with queue := writeRequest s.pw.queue .service (serviceWords (s.baselined i)) }) := by
  rw [State.takeService_eq]
  split <;> simp [State.requestService, State.requestWrite]

/-- The Service Unit after its share. -/
theorem State.takeService_service (s : State) (i : Image) :
    (s.takeService i).service =
      { s.service with
        items := (s.baselined i).map (fun x => x.evaluate s.acc.odo s.readout.day s.service.hours) } := by
  rw [State.takeService_eq]
  split <;> simp [State.evaluateItems, State.requestService, State.requestWrite]

/-! ## The whole reading -/

section
variable (s : State) (i : Image)

@[simp] theorem State.takeImage_frame :
    (s.takeImage i).pins = s.pins ∧ (s.takeImage i).mem = s.mem ∧ (s.takeImage i).sig = s.sig ∧
    (s.takeImage i).peer = s.peer ∧ (s.takeImage i).chime = s.chime ∧ (s.takeImage i).tally = s.tally ∧
    (s.takeImage i).pending = s.pending ∧ (s.takeImage i).idled = s.idled := by
  simp [State.takeImage]

@[simp] theorem State.takeImage_cal : (s.takeImage i).cal = (calShares i).cal := by
  simp [State.takeImage, State.takeCalibration]

@[simp] theorem State.takeImage_line :
    (s.takeImage i).line = s.line.applyLevels (calShares i).halt (calShares i).resume := by
  simp [State.takeImage, State.takeCalibration]

@[simp] theorem State.takeImage_gauges : (s.takeImage i).gauges = (calShares i).channels.map Channel.loaded := by
  simp [State.takeImage, State.takeCalibration]

@[simp] theorem State.takeImage_warn :
    (s.takeImage i).warn = { s.warn with sense := (calShares i).senses, table := (calShares i).positions } := by
  simp [State.takeImage, State.takeCalibration]

@[simp] theorem State.takeImage_acc : (s.takeImage i).acc = (s.takeOdometer i).acc := by
  simp only [State.takeImage, State.takeService_frame, State.takeTrip_frame, State.takeCounters_frame]
  unfold State.takeOdometer
  split <;> simp

@[simp] theorem State.takeImage_trip : (s.takeImage i).trip = (s.takeTrip i).trip := by
  simp only [State.takeImage, State.takeService_frame]
  unfold State.takeTrip
  split <;> simp

@[simp] theorem State.takeImage_readout : (s.takeImage i).readout = (s.takeCounters i).readout := by
  simp [State.takeImage, State.takeCounters]

/-- The Service Unit after the reading: the counters restored, and the items calibrated, with their baselines, evaluated. -/
theorem State.takeImage_service :
    (s.takeImage i).service =
      { (s.takeCounters i).service with
        items := (((((s.takeCalibration (calShares i)).takeOdometer i).takeCounters i).takeTrip i).baselined i).map
          (fun x => x.evaluate (s.takeOdometer i).acc.odo (s.takeCounters i).readout.day
            (s.takeCounters i).service.hours) } := by
  rw [← State.takeImage_acc s i]
  simp [State.takeImage, State.takeService_service, State.takeCounters]

/-- Power and Timebase after the reading: the settings of the calibration, and a SERVICE write where the area is invalid. -/
theorem State.takeImage_pw :
    (s.takeImage i).pw =
      (if i.valid serviceBase 24 then (s.takeCalibration (calShares i)).pw
       else { (s.takeCalibration (calShares i)).pw with
          queue := writeRequest s.pw.queue .service (serviceWords
            (((((s.takeCalibration (calShares i)).takeOdometer i).takeCounters i).takeTrip i).baselined i)) }) := by
  simp [State.takeImage, State.takeService_pw, State.takeCalibration]

end

/-- The reading leaves the power state, the role and the write in progress. -/
theorem State.takeImage_duty (s : State) (i : Image) :
    (s.takeImage i).pw.state = s.pw.state ∧ (s.takeImage i).pw.role = s.pw.role ∧
      (s.takeImage i).pw.writing = s.pw.writing := by
  rw [State.takeImage_pw]
  split <;> simp [State.takeCalibration]

/-- The channels of a reading are OFF exactly where their sources are (R74). -/
theorem Channel.loaded_off (cal : ChannelCal) :
    (Channel.loaded cal).state = .off ↔ (Channel.loaded cal).cal.source = .off := by
  unfold Channel.loaded
  by_cases h : cal.source = .off <;> simp [h, Channel.drive]

/-- After the reading LOAD may end (R170, R171). -/
theorem State.takeImage_starting {s : State} (i : Image) (h : s.pw.state = .load) : (s.takeImage i).Starting := by
  refine .inr ⟨(s.takeImage_duty i).1.trans h, ?_⟩
  intro c hc
  rw [State.takeImage_gauges, List.mem_map] at hc
  obtain ⟨cal, -, rfl⟩ := hc
  exact Channel.loaded_off cal

/-! ## What other shared operations leave in each block -/

@[simp] theorem Line.take_tx (l : Line) (rest : List Stored) : (l.take rest).tx = l.tx := rfl

@[simp] theorem Line.take_inbound (l : Line) (rest : List Stored) : (l.take rest).inbound = rest := rfl

@[simp] theorem Line.applyLevels_tx (l : Line) (halt resume : Nat) : (l.applyLevels halt resume).tx = l.tx := rfl

@[simp] theorem Line.applyLevels_inbound (l : Line) (halt resume : Nat) :
    (l.applyLevels halt resume).inbound = l.inbound := rfl

section
variable (s : State)

@[simp] theorem State.setPower_pw (p : Power) : (s.setPower p).pw = { s.pw with state := p } := rfl

@[simp] theorem State.readStraps_pw :
    s.readStraps.pw = { s.pw with station := s.pins.straps, role := roleOf s.pins.roleHigh } := rfl

@[simp] theorem State.requestWrite_pw (k : WriteKey) (d : List Word) :
    (s.requestWrite k d).pw = { s.pw with queue := writeRequest s.pw.queue k d } := rfl

@[simp] theorem State.requestService_pw :
    s.requestService.pw = { s.pw with queue := writeRequest s.pw.queue .service (serviceWords s.service.items) } := rfl

@[simp] theorem State.requestTrip_pw :
    s.requestTrip.pw = { s.pw with queue := writeRequest s.pw.queue .trip (tripWords s.trip) } := rfl

@[simp] theorem State.requestCounters_pw :
    s.requestCounters.pw =
      { s.pw with queue := writeRequest s.pw.queue .counters (countersWords s.service.hours s.readout.day) } := rfl

/-- A request for an ODOMETER write changes the write queue alone. -/
theorem State.requestOdometer_pw : s.requestOdometer.pw = { s.pw with queue := s.requestOdometer.pw.queue } := by
  unfold State.requestOdometer
  split <;> rfl

@[simp] theorem State.requestOdometer_duty :
    s.requestOdometer.pw.state = s.pw.state ∧ s.requestOdometer.pw.role = s.pw.role ∧
    s.requestOdometer.pw.time = s.pw.time ∧ s.requestOdometer.pw.writing = s.pw.writing ∧
    s.requestOdometer.pw.nextGauge = s.pw.nextGauge ∧ s.requestOdometer.pw.nextTrip = s.pw.nextTrip ∧
    s.requestOdometer.pw.nextHeart = s.pw.nextHeart := by
  rw [State.requestOdometer_pw]
  exact ⟨rfl, rfl, rfl, rfl, rfl, rfl, rfl⟩

@[simp] theorem State.enterSleep_pw : s.enterSleep.pw = s.pw.sleep := by simp [State.enterSleep]

@[simp] theorem State.enterSleep_line : s.enterSleep.line = s.line.sleep := by simp [State.enterSleep]

@[simp] theorem State.enterSleep_gauges : s.enterSleep.gauges = s.gauges.map Channel.park := by simp [State.enterSleep]

@[simp] theorem State.enterSleep_warn : s.enterSleep.warn = s.warn.sleep := by simp [State.enterSleep]

@[simp] theorem State.enterSleep_chime : s.enterSleep.chime = s.chime.sleep := by simp [State.enterSleep]

end

/-- Every block but the memory, the pins and the strapped items holds its reset value after a reset (R175). -/
@[simp] theorem State.resetPart_blocks (s : State) (pins : Pins) (mem : Memory) :
    (s.resetPart pins mem).mem = mem ∧ (s.resetPart pins mem).cal = State.reset.cal ∧
    (s.resetPart pins mem).pw = { State.reset.pw with station := pins.straps, role := roleOf pins.roleHigh } ∧
    (s.resetPart pins mem).line = State.reset.line ∧ (s.resetPart pins mem).sig = State.reset.sig ∧
    (s.resetPart pins mem).peer = { State.reset.peer with generator := some (sequenceSeed pins.straps) } ∧
    (s.resetPart pins mem).acc = State.reset.acc ∧ (s.resetPart pins mem).trip = State.reset.trip ∧
    (s.resetPart pins mem).gauges = State.reset.gauges ∧ (s.resetPart pins mem).warn = State.reset.warn ∧
    (s.resetPart pins mem).chime = State.reset.chime ∧ (s.resetPart pins mem).service = State.reset.service ∧
    (s.resetPart pins mem).readout = State.reset.readout ∧ (s.resetPart pins mem).tally = State.reset.tally :=
  ⟨rfl, rfl, rfl, rfl, rfl, rfl, rfl, rfl, rfl, rfl, rfl, rfl, rfl, rfl⟩

end Sys2Proof.Machine
end

section
/-! PROOFS. Every command is a run of elementary changes, but for the resets and the reading at the end of LOAD; and no
command but WRITE_COMPLETE stops. -/

namespace Sys2Proof.Machine

/-- An answer that is a next state, reached by a run of elementary changes; where it is not the same state, what follows every
command at once comes last. -/
def Runs (s : State) (a : Answer) : Prop := ∃ t, a = .next t ∧ Acts s t ∧ (t = s ∨ ∃ u : State, t = u.finish)

theorem Runs.absent (s : State) : Runs s (absent s) := ⟨s, rfl, .same s, .inl rfl⟩

theorem Runs.done {s u : State} (h : Acts s u) : Runs s (done u) :=
  ⟨u.finish, rfl, u.finish_acts.after h, .inr ⟨u, rfl⟩⟩

theorem dispatcher_awake {p : Power} (h : dispatcherRuns p = true) : p ≠ .sleep ∧ p ≠ .load := by
  obtain rfl | rfl | rfl := (dispatcherRuns_iff p).mp h <;> simp

/-- A command that takes a frame: the frame leaves the queue, and its effect is a run where the Dispatcher runs (R2). -/
theorem takeFrame_runs {acc : Frame → Bool} {app : State → Stored → State} (s : State)
    (happ : ∀ u f, dispatcherRuns u.pw.state = true → Acts u (app u f)) : Runs s (takeFrame acc app s) := by
  obtain h | ⟨f, rest, hruns, hq, -, h⟩ := takeFrame_cases acc app s
  · rw [h]
    exact .absent s
  · rw [h]
    exact .done ((happ _ f (by simpa using hruns)).after (Act.run (.take f rest hq)))

/-! ## Frames -/

theorem State.warnAckFrame_acts {s : State} (f : Frame) (hawake : s.pw.state ≠ .sleep) : Acts s (s.warnAckFrame f) := by
  unfold State.warnAckFrame
  split
  · exact .same s
  · split
    · exact .same s
    · rename_i e he
      split
      · exact .same s
      · unfold State.ackByFrame
        split
        · exact Act.run (.silence _ e _ he rfl hawake)
        · exact .storeSame he rfl rfl
        · exact .storeSame he rfl rfl
        · exact .same s

theorem State.serviceResetFrame_acts (s : State) (f : Frame) : Acts s (s.serviceResetFrame f) := by
  unfold State.serviceResetFrame
  split
  · exact .same s
  · exact Act.writeService.after (Act.run (.rebase _ _ _ _ (Nat.min_le_right ..)))

theorem State.odoFrame_acts (s : State) (f : Frame) : Acts s (s.odoFrame f) := by
  unfold State.odoFrame
  split
  · exact .same s
  · exact s.peerOdometer_acts _

theorem clockDay_le (f : Frame) : clockDay f ≤ 65535 := by
  have h4 := (f.byte 4).isLt
  have h5 := (f.byte 5).isLt
  unfold clockDay
  omega

/-- The time of a frame that is not ignored lies within its ranges (R143). -/
theorem Readout.setClock_sameShown {s : State} {f : Frame} (h : ¬ ClockIgnored s f) {day : Nat}
    (hday : s.readout.day ≤ 65535 → day ≤ 65535) : s.readout.SameShown (s.readout.setClock f day) := by
  simp only [ClockIgnored, not_or, Nat.not_lt] at h
  obtain ⟨-, -, hhour, hminute, hsecond, -⟩ := h
  refine ⟨rfl, rfl, ?_⟩
  rintro ⟨-, -, -, hold, hcount⟩
  exact ⟨hhour, hminute, hsecond, hday hold, hcount⟩

theorem State.clockFrame_acts (s : State) (f : Frame) : Acts s (s.clockFrame f) := by
  by_cases hign : ClockIgnored s f
  · rw [State.clockFrame_ignored hign]
  · rcases Nat.lt_or_ge s.readout.day (clockDay f) with hday | hday
    · rw [State.clockFrame_dayRaised hign hday]
      exact Act.after (t := State.evaluateItems (s.setReadout (s.readout.setClock f (clockDay f)))) .writeCounters
        (Act.run (.day _ (Readout.setClock_sameShown hign fun _ => clockDay_le f)))
    · rw [State.clockFrame_dayKept hign hday]
      exact Act.run (.readout _ (Readout.setClock_sameShown hign id) rfl)

theorem State.optionsFrame_acts (s : State) (f : Frame) : Acts s (s.optionsFrame f) := by
  unfold State.optionsFrame
  split
  · exact .same s
  · exact Act.run (.power _ ⟨rfl, rfl, rfl, rfl, id, id, id⟩)

theorem State.statusFrame_acts (s : State) (f : Stored) : Acts s (s.statusFrame f) := by
  unfold State.statusFrame
  split
  · exact Act.run (.peer _ rfl)
  · split
    · exact .same s
    · exact Act.run (.status ..)

theorem State.takeSnapshot_acts (s : State) : Acts s s.takeSnapshot :=
  (sendReports_acts ..).after (Act.after (.tally _ fun _ => OwnTallies.bounded_zero) (Act.run (.clearTallies _)))

theorem State.tallyRequest_acts (s : State) (f : Frame) : Acts s (s.tallyRequest f) := by
  unfold State.tallyRequest
  split
  · exact .same s
  · split
    · exact .same s
    · split
      · exact s.takeSnapshot_acts
      · exact .same s

/-- A word is answered OK only where it lies in the CALIBRATION area and the queue has a place for it (R181). -/
theorem calResult_ok {s : State} {a : Nat} (h : calResult s a = resultOk) :
    a ≤ 383 ∧ (calWaiting s.pw.queue < 4 ∨ s.pw.queue.any (fun e => e.key == .calWord a) = true) := by
  unfold calResult at h
  split at h
  · exact absurd h (by decide)
  · split at h
    · exact absurd h (by decide)
    · split at h
      · exact absurd h (by decide)
      · rename_i hword _ hbusy
        simp only [not_and_or, Nat.not_le, Bool.not_eq_false] at hbusy
        exact ⟨Nat.le_of_not_lt hword, hbusy⟩

theorem State.calWriteFrame_acts (s : State) (f : Frame) : Acts s (s.calWriteFrame f) := by
  unfold State.calWriteFrame
  split
  · exact .same s
  · dsimp only
    split
    · rename_i hok
      obtain ⟨hword, hroom⟩ := calResult_ok hok
      exact (State.sendFrame_acts ..).after (Act.run (.writeCal _ _ hword hroom))
    · exact s.sendFrame_acts ..

/-! ## Power commands -/

theorem execStabiliseEnd_runs (s : State) : Runs s (execStabiliseEnd s) := by
  unfold execStabiliseEnd
  split
  · rename_i h
    exact .done ((State.enterByRun_acts (.inl (by simpa using h))).after (s.advanceTo_acts _))
  · exact .absent s

theorem execRunOn_runs (s : State) : Runs s (execRunOn s) := by
  unfold execRunOn
  split
  · exact .absent s
  · have hpins : Acts s (s.setPins { s.pins with run := true }) := Act.run (.pins _)
    dsimp only
    split
    · rename_i h
      exact .done ((State.enterActiveStandby_acts h).after hpins)
    · rename_i h
      exact .done ((State.wake_acts h).after hpins)
    · exact .done hpins

theorem execRunOff_runs (s : State) : Runs s (execRunOff s) := by
  unfold execRunOff
  split
  · have hpins : Acts s (s.setPins { s.pins with run := false }) := Act.run (.pins _)
    dsimp only
    split
    · rename_i h
      exact .done ((State.enterStandbyActive_acts h.1).after hpins)
    · exact .done hpins
  · exact .absent s

theorem execStartOn_runs (s : State) : Runs s (execStartOn s) := by
  unfold execStartOn
  split
  · exact .absent s
  · have hpins : Acts s (s.setPins { s.pins with start := true }) := Act.run (.pins _)
    dsimp only
    split
    · rename_i h
      exact .done ((State.enterCrank_acts h).after hpins)
    · rename_i h
      exact .done ((State.wake_acts h).after hpins)
    · exact .done hpins

theorem execStartOff_runs (s : State) : Runs s (execStartOff s) := by
  unfold execStartOff
  split
  · have hpins : Acts s (s.setPins { s.pins with start := false }) := Act.run (.pins _)
    dsimp only
    split
    · rename_i h
      split
      · exact .done ((State.enterActiveCrank_acts h).after hpins)
      · exact .done ((State.enterStandbyTone_acts (.inr h)).after hpins)
    · exact .done hpins
  · exact .absent s

theorem execLineWakeEdge_runs (s : State) : Runs s (execLineWakeEdge s) := by
  unfold execLineWakeEdge
  split
  · rename_i h
    exact .done (State.wake_acts h)
  · exact .absent s

theorem execKeepAliveExpiry_runs (s : State) : Runs s (execKeepAliveExpiry s) := by
  unfold execKeepAliveExpiry
  split
  · exact .absent s
  · split
    · exact .done s.beginReturn_acts
    · exact .absent s

theorem sleepConditions_standby {s : State} (h : sleepConditions s = true) : s.pw.state = .standby := by
  simp only [sleepConditions, Bool.and_eq_true, beq_iff_eq] at h
  exact h.1.1.1.1

theorem execEntryToSleep_runs (s : State) : Runs s (execEntryToSleep s) := by
  unfold execEntryToSleep
  split
  · rename_i h
    exact .done (Act.run (.sleep (sleepConditions_standby h)))
  · exact .absent s

/-! ## Ticks and their shares -/

theorem gaugesRun_awake {p : Power} (h : gaugesRun p = true) : p ≠ .sleep := by
  rintro rfl
  simp [gaugesRun] at h

theorem moveMagnitude_le (err damping slew : Nat) : moveMagnitude err damping slew ≤ err := by
  unfold moveMagnitude
  split
  · omega
  · exact (Nat.min_le_left ..).trans (Nat.div_le_self ..)

/-- A movement never passes its target (R67). -/
theorem moveAngle_le {angle target top : Nat} (damping slew : Nat) (ha : angle ≤ top) (ht : target ≤ top) :
    moveAngle angle target damping slew ≤ top := by
  have := moveMagnitude_le (target - angle) damping slew
  unfold moveAngle
  split <;> omega

theorem nextAngle_le {c : Channel} (st : ChannelState) (x : Int) (h : c.angle ≤ c.cal.fullScale) :
    nextAngle c st x ≤ c.cal.fullScale := by
  cases st with
  | tracking => exact moveAngle_le _ _ h (Nat.min_le_right ..)
  | resting => exact moveAngle_le _ _ h (Nat.zero_le _)
  | returning => exact moveAngle_le _ _ h (Nat.zero_le _)
  | holding => exact h
  | off => exact h
  | parked => exact h

theorem decideState_ne_off (returning : Bool) (f : Freshness) : decideState returning f ≠ .off := by
  cases returning <;> cases f <;> decide

theorem Channel.moves_update (c : Channel) (returning : Bool) (f : Freshness) (x : Int) :
    c.Moves (c.update returning f x) := by
  unfold Channel.update
  split
  · exact ⟨rfl, id, id⟩
  · rename_i hon
    refine ⟨rfl, fun h => ⟨nextAngle_le _ x h.1, (Nat.zero_le _).trans_lt h.2⟩, fun _ => ?_⟩
    exact iff_of_false (decideState_ne_off returning f) hon

theorem Channel.Moves.trans {a b c : Channel} (hab : a.Moves b) (hbc : b.Moves c) : a.Moves c :=
  ⟨hbc.cal.trans hab.cal, fun h => hbc.inRange (hab.inRange h), fun h => hbc.off (hab.off h)⟩

theorem Channel.moves_tickChannel (s : State) (c : Channel) : c.Moves (s.tickChannel c) := by
  obtain ⟨-, h⟩ | ⟨-, -, h⟩ | ⟨-, hlt, h⟩ := s.tickChannel_cases c <;> rw [h]
  · exact ⟨rfl, id, id⟩
  · exact c.moves_tick_zero.trans (Channel.moves_update ..)
  · exact ⟨rfl, fun hr => ⟨hr.1, hlt⟩, id⟩

theorem execGaugeTick_runs (s : State) : Runs s (execGaugeTick s) := by
  unfold execGaugeTick
  split
  · exact .absent s
  · rename_i t ht
    have htick : Acts s ((s.advanceTo t).setPw { (s.advanceTo t).pw with nextGauge := some (t + 20) }) :=
      Act.after (.power _ ⟨rfl, rfl, rfl, rfl, fun h => by simp [ht] at h, id, id⟩) (s.advanceTo_acts t)
    dsimp only
    split
    · rename_i hruns
      refine .done (Act.after (.gauges _ (gaugesRun_awake hruns) fun c hc => ?_) htick)
      obtain ⟨b, hb, rfl⟩ := List.mem_map.mp hc
      exact ⟨b, hb, b.moves_tickChannel _⟩
    · exact .done htick

theorem execChannelUpdate_runs (channel : Fin 6) (s : State) : Runs s (execChannelUpdate channel s) := by
  unfold execChannelUpdate
  split
  · exact .absent s
  · split
    · rename_i h
      refine .done (Act.run (.gauges _ (gaugesRun_awake h.1) fun c hc => ?_))
      obtain hold | ⟨b, hb, rfl⟩ := mem_updateAt hc
      · exact ⟨c, hold, rfl, id, id⟩
      · exact ⟨b, hb, b.moves_update ..⟩
    · exact .absent s

theorem execTripTick_runs (sense : BitVec 16) (s : State) : Runs s (execTripTick sense s) := by
  unfold execTripTick
  split
  · exact .absent s
  · rename_i t ht
    refine .done ((State.tripTick_acts _).after (Act.after (.pins _) (Act.after (.power _ ?_) (s.advanceTo_acts t))))
    exact ⟨rfl, rfl, rfl, rfl, id, fun h => by simp [ht] at h, id⟩

/-- One header changed: held only where it was, and bound as it was. -/
theorem Signals.BoundFrom.setHdr {s : State} {k : SignalKind} {f : Freshness}
    (h : f.held = true → (s.sig.hdr k).fresh.held = true) :
    (s.sig.setHdr k { s.sig.hdr k with fresh := f }).BoundFrom s := by
  intro j hheld
  rw [Signals.hdr_setHdr] at hheld ⊢
  split
  · rename_i hj
    rw [if_pos hj] at hheld
    subst hj
    exact .inl ⟨h hheld, rfl⟩
  · rename_i hj
    rw [if_neg hj] at hheld
    exact .inl ⟨hheld, rfl⟩

theorem execSignalStale_runs (kind : SignalKind) (s : State) : Runs s (execSignalStale kind s) := by
  unfold execSignalStale
  split
  · exact .absent s
  · dsimp only
    split
    · rename_i h
      have hbound : (s.sig.setHdr kind { s.sig.hdr kind with fresh := .stale }).BoundFrom s :=
        .setHdr fun _ => by rw [h.1]; rfl
      exact .done (Act.after (.signals _ hbound) (s.advanceTo_acts _))
    · exact .absent s

theorem execSignalLost_runs (kind : SignalKind) (s : State) : Runs s (execSignalLost kind s) := by
  unfold execSignalLost
  split
  · exact .absent s
  · dsimp only
    split
    · have hbound : (s.sig.setHdr kind { s.sig.hdr kind with fresh := .lost }).BoundFrom s :=
        .setHdr fun h => absurd h (by decide)
      exact .done (Act.after (.signals _ hbound) (s.advanceTo_acts _))
    · exact .absent s

theorem execStationAbsent_runs (station : StationNo) (s : State) : Runs s (execStationAbsent station s) := by
  unfold execStationAbsent
  split
  · exact .absent s
  · dsimp only
    split
    · exact .done (Act.after (.markAbsent _) (s.advanceTo_acts _))
    · exact .absent s

theorem execFastFillEnd_runs (s : State) : Runs s (execFastFillEnd s) := by
  unfold execFastFillEnd
  split
  · exact .done (State.setFastFill_acts fun _ => Nat.zero_le _)
  · exact .absent s

theorem gateMet_evaluating {g : Gate} {p : Power} (h : gateMet g p = true) : p = .standby ∨ p = .active := by
  cases g <;> cases p <;> simp_all [gateMet]

theorem execDebounceExpiry_runs (warning : Fin 32) (s : State) : Runs s (execDebounceExpiry warning s) := by
  unfold execDebounceExpiry
  split
  · exact .absent s
  · rename_i e he
    split
    · rename_i h
      obtain ⟨hpending, -, -, hgate, -⟩ := h
      exact .done (Act.run (.raise _ e _ he rfl (by simp [hpending]) (gateMet_evaluating hgate)))
    · exact .absent s

theorem execEdgeTimerExpiry_runs (warning : Fin 32) (s : State) : Runs s (execEdgeTimerExpiry warning s) := by
  unfold execEdgeTimerExpiry
  split
  · exact .absent s
  · rename_i e he
    split
    · rename_i h
      obtain ⟨-, -, -, hgate, hfree⟩ := h
      exact .done (Act.run (.entry _ e _ he (Warning.edgeStep_cfg _) (fun _ => .inr hfree)
        fun hsleep => absurd hsleep (awake_of_evaluating (gateMet_evaluating hgate))))
    · exact .absent s

theorem execRotationAdvance_runs (s : State) : Runs s (execRotationAdvance s) := by
  unfold execRotationAdvance
  split
  · exact .done s.rotationTick_acts
  · exact .absent s

theorem execHeartbeatTick_runs (s : State) : Runs s (execHeartbeatTick s) := by
  unfold execHeartbeatTick
  split
  · exact .absent s
  · rename_i t ht
    have htick : Acts s ((s.advanceTo t).setPw { (s.advanceTo t).pw with nextHeart := some (t + 200) }) :=
      Act.after (.power _ ⟨rfl, rfl, rfl, rfl, id, id, fun h => by simp [ht] at h⟩) (s.advanceTo_acts t)
    dsimp only
    split
    · exact .done ((State.heartbeat_acts _).after htick)
    · exact .done htick

theorem execOneSecondTick_runs (s : State) : Runs s (execOneSecondTick s) :=
  .done ((State.secondTick_acts _).after
    (Act.after (.power _ ⟨rfl, rfl, rfl, rfl, id, id, id⟩) (s.advanceTo_acts s.pw.nextSecond)))

theorem execDayStep_runs (s : State) : Runs s (execDayStep s) := by
  unfold execDayStep
  split
  · exact .done s.clockSecond_acts
  · exact .absent s

theorem execEngineHoursStep_runs (s : State) : Runs s (execEngineHoursStep s) := by
  unfold execEngineHoursStep
  split
  · exact .done s.tenthStep_acts
  · exact .absent s

theorem execUnknownTimeout_runs (s : State) : Runs s (execUnknownTimeout s) := by
  unfold execUnknownTimeout
  split
  · exact .done s.unknownSecond_acts
  · exact .absent s

theorem execMarkExpiry_runs (warning : Fin 32) (s : State) : Runs s (execMarkExpiry warning s) := by
  unfold execMarkExpiry
  split
  · exact .absent s
  · rename_i e he
    split
    · exact .absent s
    · exact .done (Acts.after (.storeSame he rfl rfl) (s.advanceTo_acts _))

theorem execLampTestEnd_runs (s : State) : Runs s (execLampTestEnd s) := by
  unfold execLampTestEnd
  split
  · exact .absent s
  · exact .done (Act.after (.warn _ rfl id) (s.advanceTo_acts _))

/-! ## Line commands -/

theorem receiver_awake {p : Power} (h : receiverRuns p = true) : p ≠ .sleep := by
  simpa [receiverRuns] using h

theorem execFrameReceive_runs (bits : List Bool) (hold : Bool) (s : State) : Runs s (execFrameReceive bits hold s) := by
  unfold execFrameReceive
  split
  · rename_i h
    have hawake := receiver_awake h.1
    have hline : Acts s (s.setLine { s.line.slotsAhead with idle := false }) := Act.run (.line _ hawake rfl rfl)
    dsimp only
    split
    · exact .done hline
    · exact .done ((State.receiveBits_acts _ _ (by simpa using hawake)).after hline)
  · exact .absent s

theorem execHoldPauseEnd_runs (s : State) : Runs s (execHoldPauseEnd s) := by
  unfold execHoldPauseEnd
  split
  · exact .absent s
  · exact .done (Act.pauseOver.after (s.advanceTo_acts _))

theorem mayBegin_dispatcher {s : State} {e : TxEntry} (h : mayBegin s = some e) : dispatcherRuns s.pw.state = true := by
  unfold mayBegin at h
  split at h
  · rename_i hruns
    simp only [Bool.and_eq_true] at hruns
    exact hruns.1.1.1
  · simp at h

theorem execFrameBegin_runs (others : List Bool) (s : State) : Runs s (execFrameBegin others s) := by
  unfold execFrameBegin
  split
  · exact .absent s
  · rename_i e he
    have hawake := (dispatcher_awake (mayBegin_dispatcher he)).1
    have hbegin : Acts s (s.setLine { s.line with tx := txBegin s.line.tx, idle := false }) :=
      Act.after (s := s) (t := s.setLine { s.line with tx := txBegin s.line.tx }) (.line _ hawake rfl rfl)
        (Act.run (.tx _ TxLaw.begin))
    dsimp only
    split
    · exact .done hbegin
    · exact .done (Act.after (.tx _ TxLaw.lost) hbegin)
    · exact .done ((State.endAttempt_acts ..).after hbegin)

theorem execAttemptEnd_runs (ack hold : Bool) (s : State) : Runs s (execAttemptEnd ack hold s) := by
  unfold execAttemptEnd
  split
  · rename_i h
    have hawake := (dispatcher_awake h.2).1
    exact .done ((State.endAttempt_acts ..).after <| (State.holdSlot_acts hold (by simpa using hawake)).after <|
      Act.run (.line _ hawake rfl rfl))
  · exact .absent s

theorem execLineFaultDetect_runs (s : State) : Runs s (execLineFaultDetect s) := by
  unfold execLineFaultDetect
  split
  · rename_i h
    obtain ⟨htx, hinbound, -⟩ := s.line.breakOff_frame
    exact .done ((State.endAttempt_acts ..).after <| Act.after (.tally _ OwnTallies.bounded_lineFaults) <|
      Act.run (.line _ (receiver_awake h) htx hinbound))
  · exact .absent s

theorem execLineFaultClear_runs (s : State) : Runs s (execLineFaultClear s) := by
  unfold execLineFaultClear
  split
  · rename_i h
    exact .done (Act.run (.line _ (receiver_awake h.1) rfl rfl))
  · exact .absent s

theorem execLineIdle_runs (s : State) : Runs s (execLineIdle s) := by
  unfold execLineIdle
  split
  · rename_i h
    have hawake := receiver_awake h
    obtain ⟨htx, hinbound, -⟩ := s.line.breakOff_frame
    split
    · exact .done ((State.checkError_acts _).after (Act.run (.line _ hawake htx hinbound)))
    · exact .done (Act.run (.line _ hawake rfl rfl))
  · exact .absent s

/-! ## Writes -/

theorem nextWrite_mem {q : List WriteEntry} {e : WriteEntry} (h : nextWrite q = some e) : e ∈ q := by
  unfold nextWrite at h
  split at h
  · rename_i x hx
    exact Option.some.inj h ▸ List.mem_of_find?_eq_some hx
  · exact List.mem_of_head? h

theorem execWriteBegin_runs (s : State) : Runs s (execWriteBegin s) := by
  unfold execWriteBegin
  split
  · split
    · exact .absent s
    · rename_i e he
      exact .done (Act.run (.writeBegin e (nextWrite_mem he)))
  · exact .absent s

theorem State.writeEnded_acts (s : State) (j : WriteJob) : Acts s (s.writeEnded j) := by
  unfold State.writeEnded
  split
  · exact Act.run (.accumKeeps _ rfl rfl rfl rfl)
  · exact s.sendFrame_acts ..
  · exact .same s
  · exact .same s
  · exact .same s

/-- The write in progress lies within the 512 words of the memory (R177). -/
def State.WriteFits (s : State) : Prop := ∀ j, s.pw.writing = some j → j.base + j.data.length ≤ memoryWords

theorem execWriteComplete_runs {s : State} (hfits : s.WriteFits) : Runs s (execWriteComplete s) := by
  unfold execWriteComplete
  split
  · exact .absent s
  · rename_i j hj
    rw [if_neg (Nat.not_lt.mpr (hfits j hj))]
    exact .done ((State.writeEnded_acts _ j).after (Act.run (.writeComplete j hj)))

/-- A write outside the memory stops the machine (log 30). -/
theorem execWriteComplete_fault {s : State} (h : ¬ s.WriteFits) : ∃ f, execWriteComplete s = .fault f := by
  simp only [State.WriteFits, not_forall] at h
  obtain ⟨j, hj, hout⟩ := h
  exact ⟨.noSuchWord (j.base + j.data.length - 1), by
    simp only [execWriteComplete, hj, if_pos (Nat.lt_of_not_le hout)]⟩

/-! ## The tone generator's events -/

theorem execSecondClick_runs (s : State) : Runs s (execSecondClick s) := by
  unfold execSecondClick
  split
  · exact .absent s
  · split
    · rename_i h
      exact .done (Act.after (.secondClick _ h.1) (s.advanceTo_acts _))
    · exact .absent s

theorem execClickEnd_runs (s : State) : Runs s (execClickEnd s) := by
  unfold execClickEnd
  split
  · exact .absent s
  · split
    · rename_i h
      exact .done (Act.after (.clickEnd h.1) (s.advanceTo_acts _))
    · exact .absent s

theorem execPatternStepEnd_runs (s : State) : Runs s (execPatternStepEnd s) := by
  unfold execPatternStepEnd
  split
  · rename_i hmode _ _
    split
    · exact .absent s
    · exact .done (Act.after (.patternStep _ hmode) (s.advanceTo_acts _))
  · exact .absent s

theorem execPatternEnd_runs (s : State) : Runs s (execPatternEnd s) := by
  unfold execPatternEnd
  split
  · rename_i w _ _ hmode hplaying _ _
    split
    · exact .done (Act.after (.patternEnd w hmode hplaying) (s.advanceTo_acts _))
    · exact .absent s
  · exact .absent s

/-! ## The commands that take a frame -/

theorem execEngine_runs (s : State) : Runs s (execEngine s) :=
  takeFrame_runs s fun _ _ h => State.signalFrame_acts _ _ (dispatcher_awake h).2

theorem execChassis_runs (s : State) : Runs s (execChassis s) :=
  takeFrame_runs s fun _ _ h => State.signalFrame_acts _ _ (dispatcher_awake h).2

theorem execBody_runs (s : State) : Runs s (execBody s) :=
  takeFrame_runs s fun _ _ h => State.signalFrame_acts _ _ (dispatcher_awake h).2

theorem execFuelLevel_runs (s : State) : Runs s (execFuelLevel s) :=
  takeFrame_runs s fun _ _ h => State.signalFrame_acts _ _ (dispatcher_awake h).2

theorem execWarnAck_runs (s : State) : Runs s (execWarnAck s) :=
  takeFrame_runs s fun _ _ h => State.warnAckFrame_acts _ (dispatcher_awake h).1

theorem execServiceReset_runs (s : State) : Runs s (execServiceReset s) :=
  takeFrame_runs s fun u f _ => u.serviceResetFrame_acts f.frame

theorem execOdoAnnounce_runs (s : State) : Runs s (execOdoAnnounce s) :=
  takeFrame_runs s fun u f _ => u.odoFrame_acts f.frame

theorem execClock_runs (s : State) : Runs s (execClock s) :=
  takeFrame_runs s fun u f _ => u.clockFrame_acts f.frame

theorem execOptions_runs (s : State) : Runs s (execOptions s) :=
  takeFrame_runs s fun u f _ => u.optionsFrame_acts f.frame

theorem execStatus_runs (s : State) : Runs s (execStatus s) :=
  takeFrame_runs s fun u f _ => u.statusFrame_acts f

theorem execTallyRequest_runs (s : State) : Runs s (execTallyRequest s) :=
  takeFrame_runs s fun u f _ => u.tallyRequest_acts f.frame

theorem execCalWrite_runs (s : State) : Runs s (execCalWrite s) :=
  takeFrame_runs s fun u f _ => u.calWriteFrame_acts f.frame

theorem execTallyReport_runs (s : State) : Runs s (execTallyReport s) :=
  takeFrame_runs s fun u _ _ => .same u

theorem execCalReply_runs (s : State) : Runs s (execCalReply s) :=
  takeFrame_runs s fun u _ _ => .same u

theorem execUnknownKind_runs (s : State) : Runs s (execUnknownKind s) :=
  takeFrame_runs s fun u _ _ => .same u

theorem execLamp_runs (s : State) : Runs s (execLamp s) :=
  takeFrame_runs s fun u f _ => u.testFrame_acts f.frame u.startLampTest_acts

theorem execInsertRate_runs (s : State) : Runs s (execInsertRate s) :=
  takeFrame_runs s fun u f _ => u.testFrame_acts f.frame (Act.run (.peer _ rfl))

theorem execInsertOnce_runs (s : State) : Runs s (execInsertOnce s) :=
  takeFrame_runs s fun u f _ =>
    u.testFrame_acts f.frame (effect := fun v => v.setPeer { v.peer with once := true }) (Act.run (.peer _ rfl))

theorem execRestart_runs (s : State) : Runs s (execRestart s) :=
  takeFrame_runs s fun u f _ =>
    u.testFrame_acts f.frame (effect := fun v => v.setPw { v.pw with restartPending := true })
    (Act.run (.power _ ⟨rfl, rfl, rfl, rfl, id, id, id⟩))

theorem execPageNext_runs (s : State) : Runs s (execPageNext s) :=
  takeFrame_runs s fun u f _ => u.keyFrame_acts f State.pageNextKey_acts

theorem execPageBack_runs (s : State) : Runs s (execPageBack s) :=
  takeFrame_runs s fun u f _ => u.keyFrame_acts f State.pageBackKey_acts

theorem execTripSelect_runs (s : State) : Runs s (execTripSelect s) :=
  takeFrame_runs s fun u f _ => u.keyFrame_acts f State.tripSelectKey_acts

theorem execTripReset_runs (s : State) : Runs s (execTripReset s) :=
  takeFrame_runs s fun u f _ => u.keyFrame_acts f State.tripResetKey_acts

theorem execOdoSelect_runs (s : State) : Runs s (execOdoSelect s) :=
  takeFrame_runs s fun u f _ => u.keyFrame_acts f State.odoSelectKey_acts

theorem execAcknowledge_runs (s : State) : Runs s (execAcknowledge s) :=
  takeFrame_runs s fun u f _ => u.keyFrame_acts f State.acknowledgeKey_acts

theorem execHour_runs (s : State) : Runs s (execHour s) :=
  takeFrame_runs s fun u f _ => u.keyFrame_acts f State.hourKey_acts

theorem execMinute_runs (s : State) : Runs s (execMinute s) :=
  takeFrame_runs s fun u f _ => u.keyFrame_acts f State.minuteKey_acts

theorem execServiceResetKey_runs (s : State) : Runs s (execServiceResetKey s) :=
  takeFrame_runs s fun u f _ => u.keyFrame_acts f (fun v => v.serviceResetKey_acts _)

theorem execCall_runs (s : State) : Runs s (execCall s) :=
  takeFrame_runs s fun u f _ => u.keyFrame_acts f State.callKey_acts

/-! ## Every command -/

/-- Whether a command is a reset (R175). -/
def isReset : Instr → Bool
  | .powerOnReset .. => true
  | .resetPin .. => true
  | .restartReset => true
  | _ => false

/-- Whether a command is the end of LOAD (R171). -/
def isLoadEnd : Instr → Bool
  | .loadEnd .. => true
  | _ => false

theorem isReset_cases {c : Instr} (h : isReset c = true) :
    c = .restartReset ∨ (∃ p r n, c = .powerOnReset p r n) ∨ ∃ p r n, c = .resetPin p r n := by
  cases c with
  | powerOnReset p r n => exact .inr (.inl ⟨p, r, n, rfl⟩)
  | resetPin p r n => exact .inr (.inr ⟨p, r, n, rfl⟩)
  | restartReset => exact .inl rfl
  | _ => exact absurd h (by simp [isReset])

theorem isLoadEnd_cases {c : Instr} (h : isLoadEnd c = true) : ∃ n l, c = .loadEnd n l := by
  cases c with
  | loadEnd n l => exact ⟨n, l, rfl⟩
  | _ => exact absurd h (by simp [isLoadEnd])

/-- Every command but a reset and LOAD_END is a run of elementary changes, where the write in progress lies within the
memory. -/
theorem exec_runs {c : Instr} {s : State} (hreset : isReset c = false) (hload : isLoadEnd c = false)
    (hfits : c = .writeComplete → s.WriteFits) : Runs s (exec c s) := by
  cases c with
  | powerOnReset => exact absurd hreset (by simp [isReset])
  | resetPin => exact absurd hreset (by simp [isReset])
  | restartReset => exact absurd hreset (by simp [isReset])
  | loadEnd => exact absurd hload (by simp [isLoadEnd])
  | stabiliseEnd => exact execStabiliseEnd_runs s
  | runOn => exact execRunOn_runs s
  | runOff => exact execRunOff_runs s
  | startOn => exact execStartOn_runs s
  | startOff => exact execStartOff_runs s
  | lineWakeEdge => exact execLineWakeEdge_runs s
  | keepAliveExpiry => exact execKeepAliveExpiry_runs s
  | entryToSleep => exact execEntryToSleep_runs s
  | gaugeTick => exact execGaugeTick_runs s
  | channelUpdate channel => exact execChannelUpdate_runs channel s
  | tripTick sense => exact execTripTick_runs sense s
  | signalStale kind => exact execSignalStale_runs kind s
  | signalLost kind => exact execSignalLost_runs kind s
  | stationAbsent station => exact execStationAbsent_runs station s
  | fastFillEnd => exact execFastFillEnd_runs s
  | debounceExpiry warning => exact execDebounceExpiry_runs warning s
  | edgeTimerExpiry warning => exact execEdgeTimerExpiry_runs warning s
  | rotationAdvance => exact execRotationAdvance_runs s
  | heartbeatTick => exact execHeartbeatTick_runs s
  | oneSecondTick => exact execOneSecondTick_runs s
  | dayStep => exact execDayStep_runs s
  | engineHoursStep => exact execEngineHoursStep_runs s
  | unknownTimeout => exact execUnknownTimeout_runs s
  | markExpiry warning => exact execMarkExpiry_runs warning s
  | lampTestEnd => exact execLampTestEnd_runs s
  | frameReceive bits hold => exact execFrameReceive_runs bits hold s
  | holdPauseEnd => exact execHoldPauseEnd_runs s
  | frameBegin others => exact execFrameBegin_runs others s
  | attemptEnd ack hold => exact execAttemptEnd_runs ack hold s
  | lineFaultDetect => exact execLineFaultDetect_runs s
  | lineFaultClear => exact execLineFaultClear_runs s
  | lineIdle => exact execLineIdle_runs s
  | engine => exact execEngine_runs s
  | chassis => exact execChassis_runs s
  | body => exact execBody_runs s
  | fuelLevel => exact execFuelLevel_runs s
  | warnAck => exact execWarnAck_runs s
  | serviceReset => exact execServiceReset_runs s
  | odoAnnounce => exact execOdoAnnounce_runs s
  | clock => exact execClock_runs s
  | options => exact execOptions_runs s
  | status => exact execStatus_runs s
  | tallyRequest => exact execTallyRequest_runs s
  | calWrite => exact execCalWrite_runs s
  | tallyReport => exact execTallyReport_runs s
  | calReply => exact execCalReply_runs s
  | unknownKind => exact execUnknownKind_runs s
  | lamp => exact execLamp_runs s
  | insertRate => exact execInsertRate_runs s
  | insertOnce => exact execInsertOnce_runs s
  | restart => exact execRestart_runs s
  | pageNext => exact execPageNext_runs s
  | pageBack => exact execPageBack_runs s
  | tripSelect => exact execTripSelect_runs s
  | tripReset => exact execTripReset_runs s
  | odoSelect => exact execOdoSelect_runs s
  | acknowledge => exact execAcknowledge_runs s
  | hour => exact execHour_runs s
  | minute => exact execMinute_runs s
  | serviceResetKey => exact execServiceResetKey_runs s
  | call => exact execCall_runs s
  | secondClick => exact execSecondClick_runs s
  | clickEnd => exact execClickEnd_runs s
  | patternStepEnd => exact execPatternStepEnd_runs s
  | patternEnd => exact execPatternEnd_runs s
  | writeBegin => exact execWriteBegin_runs s
  | writeComplete => exact execWriteComplete_runs (hfits rfl)

/-! ## LOAD_END and the resets -/

/-- LOAD_END: nothing outside LOAD; in LOAD a run, then the reading, then a run (R170, R171). -/
theorem execLoadEnd_cases (wordsRead : Nat) (silent : List Nat) (s : State) :
    execLoadEnd wordsRead silent s = .next s ∨
      ∃ u i v, execLoadEnd wordsRead silent s = .next (State.finish v) ∧ Acts s u ∧ u.pw.state = .load ∧
        Acts (u.takeImage i) v.finish := by
  unfold execLoadEnd
  split
  · rename_i hload
    right
    have hstraps : Acts s s.strapsRead := by
      obtain ⟨-, h⟩ | ⟨-, h⟩ := s.strapsRead_cases <;> rw [h]
      exact Act.run (.straps hload)
    have hstate : s.strapsRead.pw.state = .load := by
      obtain ⟨-, h⟩ | ⟨-, h⟩ := s.strapsRead_cases <;> rw [h] <;> exact hload
    dsimp only
    split
    · exact ⟨_, _, _, rfl, (State.advanceTo_acts _ 250).after hstraps, hstate,
        (State.finish_acts _).after (State.enterByRun_acts (State.takeImage_starting _ hstate))⟩
    · exact ⟨_, _, _, rfl, hstraps, hstate,
        (State.finish_acts _).after (State.enterByRun_acts (State.takeImage_starting _ hstate))⟩
  · exact .inl rfl

/-- The memory after a reset, with the words of a cut write (log 11). -/
theorem cutMemory_cases (s : State) (cut : Nat) : ∃ a ws, cutMemory s cut = memWriteAll s.mem a ws := by
  unfold cutMemory
  split
  · exact ⟨0, [], rfl⟩
  · exact ⟨_, _, rfl⟩

/-- A reset that takes place (R175). -/
theorem exec_reset_cases {c : Instr} (h : isReset c = true) (s : State) :
    exec c s = .next s ∨ ∃ pins a ws, exec c s = .next (s.resetPart pins (memWriteAll s.mem a ws)) := by
  cases c with
  | powerOnReset straps rear cut =>
    obtain ⟨a, ws, hmem⟩ := cutMemory_cases s cut
    exact .inr ⟨{ s.pins with straps := straps, roleHigh := rear }, a, ws, by rw [← hmem]; rfl⟩
  | resetPin straps rear cut =>
    obtain ⟨a, ws, hmem⟩ := cutMemory_cases s cut
    exact .inr ⟨{ s.pins with straps := straps, roleHigh := rear }, a, ws, by rw [← hmem]; rfl⟩
  | restartReset =>
    show execRestartReset s = _ ∨ ∃ pins a ws, execRestartReset s = _
    unfold execRestartReset
    split
    · exact .inr ⟨s.pins, 0, [], rfl⟩
    · exact .inl rfl
  | _ => exact absurd h (by simp [isReset])

/-! ## A step -/

theorem idle_acts (s : State) : Acts s (idle s) := by
  have hidled : Acts s (s.setIdled (s.idled + 1)) := Act.run (.idled _)
  unfold idle
  dsimp only
  split
  · exact Act.after (.pending _) hidled
  · split
    · exact Act.after (.pending _) hidled
    · exact Act.after (.power _ ⟨rfl, rfl, rfl, rfl, id, id, id⟩) hidled

/-- What a step that answers a next state has done: a run of elementary changes, with what follows every command at once last
unless the command changes nothing or the step is an idle one; or, at a command that is named, a reading at the end of LOAD
between two runs, or a reset. -/
theorem step_cases {s t : State} (h : step s = .next t) :
    (Acts s t ∧ (t = idle s ∨ (∃ l, t = s.setPending l) ∨ ∃ u : State, t = u.finish)) ∨
      (∃ c rest, s.pending = c :: rest ∧ isLoadEnd c = true ∧
        ∃ u i v, Acts s u ∧ u.pw.state = .load ∧ Acts (u.takeImage i) t ∧ t = State.finish v) ∨
      ∃ c rest, s.pending = c :: rest ∧ isReset c = true ∧
        ∃ pins a ws, t = (s.setPending rest).resetPart pins (memWriteAll s.mem a ws) := by
  unfold step at h
  split at h
  · cases h
    exact .inl ⟨idle_acts s, .inl rfl⟩
  · rename_i c rest hq
    have hpop : Acts s (s.setPending rest) := Act.run (.pending _)
    cases hreset : isReset c with
    | true =>
      obtain hsame | ⟨pins, a, ws, hr⟩ := exec_reset_cases hreset (s.setPending rest)
      · cases hsame.symm.trans h
        exact .inl ⟨hpop, .inr (.inl ⟨rest, rfl⟩)⟩
      · cases hr.symm.trans h
        exact .inr (.inr ⟨c, rest, hq, hreset, pins, a, ws, rfl⟩)
    | false =>
      cases hload : isLoadEnd c with
      | true =>
        obtain ⟨n, l, rfl⟩ := isLoadEnd_cases hload
        obtain hsame | ⟨u, i, v, ht, hu, hstate, hrun⟩ := execLoadEnd_cases n l (s.setPending rest)
        · cases hsame.symm.trans h
          exact .inl ⟨hpop, .inr (.inl ⟨rest, rfl⟩)⟩
        · cases ht.symm.trans h
          exact .inr (.inl ⟨_, rest, hq, hload, u, i, v, hu.after hpop, hstate, hrun, rfl⟩)
      | false =>
        have hfits : c = .writeComplete → (s.setPending rest).WriteFits := by
          rintro rfl
          by_contra hout
          obtain ⟨f, hf⟩ := execWriteComplete_fault hout
          cases hf.symm.trans h
        obtain ⟨t', ht, hrun, hlast⟩ := exec_runs hreset hload hfits
        cases ht.symm.trans h
        exact .inl ⟨hrun.after hpop, .inr (hlast.imp_left fun hsame => ⟨rest, hsame⟩)⟩

/-- A law that every elementary change, every reading at the end of LOAD and every reset keeps is kept by every step. -/
theorem step_keeps {P : State → Prop} (hact : ∀ s t, Act s t → P s → P t)
    (himage : ∀ s i, s.pw.state = .load → P s → P (s.takeImage i))
    (hreset : ∀ s pins a ws, P s → P (s.resetPart pins (memWriteAll s.mem a ws))) {s t : State} (hs : P s)
    (h : step s = .next t) : P t := by
  obtain ⟨hrun, -⟩ | ⟨-, -, -, -, u, i, -, hu, hload, hrun, -⟩ | ⟨-, rest, -, -, pins, a, ws, rfl⟩ := step_cases h
  · exact hrun.keep hact hs
  · exact hrun.keep hact (himage u i hload (hu.keep hact hs))
  · exact hreset (s.setPending rest) pins a ws (hact _ _ (.pending rest) hs)

end Sys2Proof.Machine
end

section
/-! PROOFS. The serial memory keeps its form, and the two queues of the Line Port keep their laws, at every step. -/

namespace Sys2Proof.Machine

/-! ## The serial memory -/

theorem Act.keeps_memoryLaw {s t : State} (h : Act s t) (hs : s.memoryLaw) : t.memoryLaw := by
  unfold State.memoryLaw at hs ⊢
  cases h with
  | writeComplete j _ => exact memWf_memWriteAll hs _ _
  | _ => simpa [State.takeDistance] using hs

/-- Settles O52: no elementary change but the end of a write touches the memory, and that one keeps its form. -/
theorem memoryKept : Obligations.MemoryKept := by
  unfold Obligations.MemoryKept
  intro s t hs h
  refine step_keeps (P := State.memoryLaw) (fun _ _ => Act.keeps_memoryLaw) ?_ ?_ hs h
  · intro s i _ hs
    simpa [State.memoryLaw] using hs
  · intro s pins a ws hs
    exact memWf_memWriteAll hs a ws

/-! ## The queues of the Line Port -/

theorem State.transmitLaw_iff {s : State} : s.transmitLaw ↔ TxLaw s.line.tx := Iff.rfl

theorem Act.keeps_transmitLaw {s t : State} (h : Act s t) (hs : s.transmitLaw) : t.transmitLaw := by
  rw [State.transmitLaw_iff] at hs ⊢
  cases h with
  | tx q hq => exact hq hs
  | sleep _ => simpa [Line.sleep] using hs
  | line l _ htx _ => simpa [htx] using hs
  | store l f _ _ _ htx => simpa [htx] using hs
  | _ => simpa [State.takeDistance] using hs

theorem Act.keeps_inboundLaw {s t : State} (h : Act s t) (hs : s.inboundLaw) : t.inboundLaw := by
  unfold State.inboundLaw at hs ⊢
  cases h with
  | take f rest hq =>
    rw [hq] at hs
    simpa using Nat.le_of_succ_le hs
  | sleep _ => simp [Line.sleep]
  | line l _ _ hin => simpa [hin] using hs
  | store l f _ hroom hin _ => simpa [hin] using hroom
  | _ => simpa [State.takeDistance] using hs

/-- Settles O53: the transmit queue by its own rules under a request and a departure, and the inbound queue because a frame is
stored below 16 alone. -/
theorem lineQueuesKept : Obligations.LineQueuesKept := by
  unfold Obligations.LineQueuesKept
  refine ⟨fun s t hs h => ?_, fun s t hs h => ?_⟩
  · refine step_keeps (P := State.transmitLaw) (fun _ _ => Act.keeps_transmitLaw) ?_ ?_ hs h
    · intro s i _ hs
      simpa [State.transmitLaw_iff] using hs
    · intro s pins a ws _
      exact ⟨Nat.zero_le 8, List.nodup_nil, List.Pairwise.nil⟩
  · refine step_keeps (P := State.inboundLaw) (fun _ _ => Act.keeps_inboundLaw) ?_ ?_ hs h
    · intro s i _ hs
      simpa [State.inboundLaw] using hs
    · intro s pins a ws _
      exact Nat.zero_le 16

end Sys2Proof.Machine
end

section
/-! PROOFS. The write queue keeps its law (R179), every write lies within the memory (R177), and then every command has a next
state. -/

namespace Sys2Proof.Machine

/-! ## The write queue -/

theorem writeRequest_map_key_of_any {q : List WriteEntry} {k : WriteKey} (d : List Word)
    (h : q.any (fun e => e.key == k) = true) : (writeRequest q k d).map WriteEntry.key = q.map WriteEntry.key := by
  rw [writeRequest, if_pos h, List.map_map]
  refine List.map_congr_left fun e _ => ?_
  by_cases hk : e.key = k <;> simp [hk]

theorem writeRequest_nodup {q : List WriteEntry} (k : WriteKey) (d : List Word) (h : (q.map WriteEntry.key).Nodup) :
    ((writeRequest q k d).map WriteEntry.key).Nodup := by
  obtain ⟨hany, -⟩ | ⟨hnone, heq⟩ := writeRequest_cases q k d
  · rwa [writeRequest_map_key_of_any d hany]
  · rw [heq, List.map_append]
    refine h.append (List.nodup_singleton k) (List.disjoint_singleton.mpr fun hmem => ?_)
    obtain ⟨e, he, hek⟩ := List.mem_map.mp hmem
    simp only [List.any_eq_false, beq_iff_eq] at hnone
    exact hnone e he hek

/-- The calibration entries are those of the keys that name a word. -/
theorem calWaiting_eq (q : List WriteEntry) :
    calWaiting q = (q.map WriteEntry.key).countP (fun k => ({ key := k, data := [] } : WriteEntry).isCal) := by
  rw [List.countP_map]
  rfl

/-- A request leaves at most four calibration entries, if it is none, or there is room, or its entry waits already. -/
theorem calWaiting_writeRequest {q : List WriteEntry} {k : WriteKey} (d : List Word) (h : calWaiting q ≤ 4)
    (hroom : (∀ a, k ≠ .calWord a) ∨ calWaiting q < 4 ∨ q.any (fun e => e.key == k) = true) :
    calWaiting (writeRequest q k d) ≤ 4 := by
  obtain ⟨hany, -⟩ | ⟨hnone, heq⟩ := writeRequest_cases q k d
  · rwa [calWaiting_eq, writeRequest_map_key_of_any d hany, ← calWaiting_eq]
  · have hsum : calWaiting (writeRequest q k d) = calWaiting q + calWaiting [{ key := k, data := d }] := by
      rw [heq]
      exact List.countP_append
    have hone : calWaiting [{ key := k, data := d }] ≤ 1 := List.countP_le_length
    obtain hk | hlt | hany := hroom
    · have hzero : calWaiting [{ key := k, data := d }] = 0 := by
        cases k with
        | calWord a => exact absurd rfl (hk a)
        | _ => rfl
      omega
    · omega
    · exact absurd hany (by simp [hnone])

/-- The entries that are no calibration entries have four keys between them. -/
theorem writeQueue_length_le {q : List WriteEntry} (h : (q.map WriteEntry.key).Nodup) :
    q.length ≤ calWaiting q + 4 := by
  have hkeys : ((q.filter (fun e => !e.isCal)).map WriteEntry.key) ⊆ [.odometer, .service, .trip, .counters] := by
    intro k hk
    obtain ⟨e, he, rfl⟩ := List.mem_map.mp hk
    have hcal : e.isCal = false := by simpa using (List.mem_filter.mp he).2
    unfold WriteEntry.isCal at hcal
    cases hkey : e.key with
    | calWord a => simp [hkey] at hcal
    | _ => simp
  have hnodup : ((q.filter (fun e => !e.isCal)).map WriteEntry.key).Nodup :=
    h.sublist (List.filter_sublist.map _)
  have hfour := (hnodup.subperm hkeys).length_le
  have hsplit := List.length_eq_countP_add_countP (l := q) WriteEntry.isCal
  simp only [List.length_map, ← List.countP_eq_length_filter, List.length_cons, List.length_nil] at hfour
  unfold calWaiting
  simp only [Bool.not_eq_true, Bool.decide_eq_false] at hsplit
  omega

/-- The law of the write queue, without the length it brings about. -/
theorem State.writeLaw_iff {s : State} :
    s.writeLaw ↔ (s.pw.queue.map WriteEntry.key).Nodup ∧ calWaiting s.pw.queue ≤ 4 := by
  refine ⟨fun ⟨hkeys, hcal, _⟩ => ⟨hkeys, hcal⟩, fun ⟨hkeys, hcal⟩ => ⟨hkeys, hcal, ?_⟩⟩
  have := writeQueue_length_le hkeys
  omega

theorem State.writeLaw_requestWrite {s : State} {k : WriteKey} (d : List Word) (hs : s.writeLaw)
    (hroom : (∀ a, k ≠ .calWord a) ∨ calWaiting s.pw.queue < 4 ∨ s.pw.queue.any (fun e => e.key == k) = true) :
    (s.requestWrite k d).writeLaw := by
  obtain ⟨hkeys, hcal⟩ := State.writeLaw_iff.mp hs
  exact State.writeLaw_iff.mpr ⟨writeRequest_nodup k d hkeys, calWaiting_writeRequest d hcal hroom⟩

theorem Act.keeps_writeLaw {s t : State} (h : Act s t) (hs : s.writeLaw) : t.writeLaw := by
  cases h with
  | writeOdometer =>
    unfold State.requestOdometer
    split
    · exact hs
    · exact State.writeLaw_requestWrite _ hs (.inl (by simp))
  | writeService => exact State.writeLaw_requestWrite _ hs (.inl (by simp))
  | writeTrip => exact State.writeLaw_requestWrite _ hs (.inl (by simp))
  | writeCounters => exact State.writeLaw_requestWrite _ hs (.inl (by simp))
  | writeCal a w _ hroom => exact State.writeLaw_requestWrite _ hs (.inr hroom)
  | writeBegin e _ =>
    obtain ⟨hkeys, hcal⟩ := State.writeLaw_iff.mp hs
    refine State.writeLaw_iff.mpr ⟨hkeys.sublist (List.filter_sublist.map _), ?_⟩
    exact (List.filter_sublist.countP_le).trans hcal
  | power p hp => simpa [State.writeLaw_iff, hp.queue] using hs
  | _ => simpa [State.writeLaw_iff, State.takeDistance, PowerUnit.sleep, PowerUnit.wake] using hs

theorem State.takeImage_keeps_writeLaw {s : State} (i : Image) (hs : s.writeLaw) : (s.takeImage i).writeLaw := by
  obtain ⟨hkeys, hcal⟩ := State.writeLaw_iff.mp hs
  rw [State.writeLaw_iff, State.takeImage_pw]
  split
  · exact ⟨hkeys, hcal⟩
  · exact ⟨writeRequest_nodup _ _ hkeys, calWaiting_writeRequest _ hcal (.inl (by simp))⟩

/-! ## Every write within the memory -/

/-- The law of the writes on the parts it reads. -/
def WritesFit (items : List ServiceItem) (q : List WriteEntry) (job : Option WriteJob) : Prop :=
  items.length ≤ 6 ∧ (∀ e ∈ q, e.fits) ∧ ∀ j, job = some j → j.base + j.data.length ≤ memoryWords

theorem State.writingLaw_iff {s : State} : s.writingLaw ↔ WritesFit s.service.items s.pw.queue s.pw.writing := Iff.rfl

theorem serviceWords_length (items : List ServiceItem) : (serviceWords items).length = 4 * items.length + 1 := by
  have hfour (x : ServiceItem) : (itemWords x).length = 4 := rfl
  simp [serviceWords, withCheck, List.length_flatMap, hfour, Nat.mul_comm]

theorem writeRequest_fits {q : List WriteEntry} {k : WriteKey} {d : List Word} (hq : ∀ e ∈ q, e.fits)
    (hnew : WriteEntry.fits { key := k, data := d }) : ∀ e ∈ writeRequest q k d, e.fits := by
  intro e he
  obtain ⟨-, heq⟩ | ⟨-, heq⟩ := writeRequest_cases q k d
  · rw [heq, List.mem_map] at he
    obtain ⟨x, hx, rfl⟩ := he
    by_cases hk : x.key = k
    · subst hk
      simpa using hnew
    · simpa [hk] using hq x hx
  · rw [heq, List.mem_append, List.mem_singleton] at he
    obtain he | rfl := he
    · exact hq e he
    · exact hnew

theorem WritesFit.request {items : List ServiceItem} {q : List WriteEntry} {job : Option WriteJob} {k : WriteKey}
    {d : List Word} (h : WritesFit items q job) (hnew : WriteEntry.fits { key := k, data := d }) :
    WritesFit items (writeRequest q k d) job := by
  obtain ⟨hitems, hq, hjob⟩ := h
  exact ⟨hitems, writeRequest_fits hq hnew, hjob⟩

theorem WritesFit.items {items items' : List ServiceItem} {q : List WriteEntry} {job : Option WriteJob}
    (h : WritesFit items q job) (hlen : items'.length = items.length) : WritesFit items' q job := by
  obtain ⟨hitems, hq, hjob⟩ := h
  exact ⟨hlen.trans_le hitems, hq, hjob⟩

/-- The area of a pending write lies within the memory. -/
theorem writeJob_fits {e : WriteEntry} (h : e.fits) (current : Option Nat) :
    (writeJob e current).base + (writeJob e current).data.length ≤ memoryWords := by
  have htarget : targetSlot current < 8 := by
    cases current with
    | none => exact Nat.zero_lt_succ 7
    | some n => exact Nat.mod_lt _ (Nat.zero_lt_succ 7)
  unfold WriteEntry.fits at h
  unfold writeJob writeBase memoryWords odometerBase serviceBase tripBase countersBase
  cases hk : e.key <;> simp only [hk] at h ⊢ <;> omega

theorem serviceFits {items : List ServiceItem} (h : items.length ≤ 6) :
    WriteEntry.fits { key := .service, data := serviceWords items } := by
  show (serviceWords items).length ≤ 25
  rw [serviceWords_length]
  omega

theorem evaluateItems_length (s : State) : s.evaluateItems.service.items.length = s.service.items.length := by
  simp [State.evaluateItems]

theorem Act.keeps_writingLaw {s t : State} (h : Act s t) (hs : s.writingLaw) : t.writingLaw := by
  rw [State.writingLaw_iff] at hs ⊢
  cases h with
  | power p hp => simpa [hp.queue, hp.writing] using hs
  | sleep _ => simpa [PowerUnit.sleep] using hs
  | stabilise _ => simpa [PowerUnit.wake] using hs
  | writeOdometer =>
    unfold State.requestOdometer
    split
    · exact hs
    · exact hs.request rfl
  | writeService => exact hs.request (serviceFits hs.1)
  | writeTrip => exact hs.request rfl
  | writeCounters => exact hs.request rfl
  | writeCal a w ha _ => exact hs.request ⟨ha, rfl⟩
  | writeBegin e he =>
    obtain ⟨hitems, hq, -⟩ := hs
    refine ⟨hitems, fun x hx => hq x (List.mem_filter.mp hx).1, ?_⟩
    intro j hj
    obtain rfl : writeJob e s.acc.slot = j := by simpa using hj
    exact writeJob_fits (hq e he) _
  | writeComplete j _ =>
    obtain ⟨hitems, hq, -⟩ := hs
    exact ⟨hitems, hq, by simp⟩
  | odometer a _ => simpa using hs.items (evaluateItems_length (s.setAcc a))
  | day r _ => simpa using hs.items (evaluateItems_length (s.setReadout r))
  | hour v hv => simpa using hs.items ((evaluateItems_length (s.setService v)).trans (by simp [hv.items]))
  | service v hv _ => simpa [hv.items] using hs
  | rebase n o d h _ => simpa using hs.items (by simp [State.rebaseItem])
  | _ => simpa [State.takeDistance] using hs

theorem restoreItems_length (i : Image) (odo : Nat) (items : List ServiceItem) (n : Nat) :
    (restoreItems i odo items n).length = items.length := by
  induction items generalizing n with
  | nil => rfl
  | cons x rest ih => simp [restoreItems, ih]

@[simp] theorem State.baselined_length (s : State) (i : Image) : (s.baselined i).length = s.service.items.length := by
  unfold State.baselined
  split <;> simp [restoreItems_length]

theorem calShares_services_length (i : Image) : (calShares i).services.length = 6 := by
  unfold calShares
  split <;> simp [serviceCfgsOf, builtInServices]

theorem State.takeImage_keeps_writingLaw {s : State} (i : Image) (hs : s.writingLaw) : (s.takeImage i).writingLaw := by
  obtain ⟨-, hq, hjob⟩ := hs
  have hlen (u : State) (hu : u.service.items.length = 6) : (u.baselined i).length ≤ 6 := by
    rw [State.baselined_length, hu]
  have hsix : ((((s.takeCalibration (calShares i)).takeOdometer i).takeCounters i).takeTrip i).service.items.length =
      6 := by
    simp [State.takeCounters, State.takeCalibration, calShares_services_length]
  refine ⟨?_, ?_, ?_⟩
  · rw [State.takeImage_service]
    simpa using hsix.le
  · rw [State.takeImage_pw]
    split
    · exact hq
    · exact writeRequest_fits hq (serviceFits (hlen _ hsix))
  · rwa [(s.takeImage_duty i).2.2]

/-! ## A next state -/

/-- No command faults or is refused where the write in progress lies within the memory. -/
theorem step_next {s : State} (hfits : s.WriteFits) : ∃ t, step s = .next t := by
  unfold step
  split
  · exact ⟨_, rfl⟩
  · rename_i c rest _
    cases hreset : isReset c with
    | true =>
      obtain h | ⟨_, _, _, h⟩ := exec_reset_cases hreset (s.setPending rest) <;> exact ⟨_, h⟩
    | false =>
      cases hload : isLoadEnd c with
      | true =>
        obtain ⟨n, l, rfl⟩ := isLoadEnd_cases hload
        obtain h | ⟨_, _, _, h, -⟩ := execLoadEnd_cases n l (s.setPending rest) <;> exact ⟨_, h⟩
      | false =>
        obtain ⟨t, h, -⟩ := exec_runs hreset hload (s := s.setPending rest) fun _ => hfits
        exact ⟨t, h⟩

/-- Settles O54: the write queue by its keys, whose number bounds its length; the writes by the areas their words have. -/
theorem writesKept : Obligations.WritesKept := by
  unfold Obligations.WritesKept
  refine ⟨fun s t hs h => ?_, fun s hs => ?_⟩
  · refine step_keeps (P := State.writeLaw) (fun _ _ => Act.keeps_writeLaw) ?_ ?_ hs h
    · exact fun s i _ hs => State.takeImage_keeps_writeLaw i hs
    · intro s pins a ws _
      exact State.writeLaw_iff.mpr ⟨List.nodup_nil, Nat.zero_le 4⟩
  · obtain ⟨t, h⟩ := step_next (s := s) hs.2.2
    refine ⟨t, h, step_keeps (P := State.writingLaw) (fun _ _ => Act.keeps_writingLaw) ?_ ?_ hs h⟩
    · exact fun s i _ hs => State.takeImage_keeps_writingLaw i hs
    · intro s pins a ws _
      exact ⟨Nat.le_refl 6, List.forall_mem_nil _, fun j hj => nomatch hj⟩

end Sys2Proof.Machine
end

section
/-! PROOFS. The chime queue keeps its laws (R103) and its warnings stay ACTIVE (R97, R101), at every step. -/

namespace Sys2Proof.Machine

/-! ## The warning table -/

theorem WarnUnit.entry_setEntry_same {w : WarnUnit} {n : Nat} {e : Warning} (e' : Warning) (h : w.entry n = some e) :
    (w.setEntry n e').entry n = some e' := by
  unfold WarnUnit.entry at h ⊢
  rw [List.getD_eq_getElem?_getD] at h ⊢
  cases hn : w.table[n]? with
  | none => simp [hn] at h
  | some x => simp [WarnUnit.setEntry, updateAt_getElem?, hn]

theorem WarnUnit.entry_setEntry_other {w : WarnUnit} {n m : Nat} (e' : Warning) (h : m ≠ n) :
    (w.setEntry n e').entry m = w.entry m := by
  unfold WarnUnit.entry
  rw [List.getD_eq_getElem?_getD, List.getD_eq_getElem?_getD]
  simp [WarnUnit.setEntry, updateAt_getElem?, h]

/-- A change of every entry of the table that leaves positions not in use. -/
theorem WarnUnit.entry_map {w v : WarnUnit} {f : Warning → Warning} (h : v.table = w.table.map (fun e => e.map f))
    (n : Nat) : v.entry n = (w.entry n).map f := by
  unfold WarnUnit.entry
  rw [List.getD_eq_getElem?_getD, List.getD_eq_getElem?_getD, h, List.getElem?_map]
  cases w.table[n]? <;> rfl

theorem WarnUnit.entry_of_table {w v : WarnUnit} (h : v.table = w.table) (n : Nat) : v.entry n = w.entry n := by
  unfold WarnUnit.entry
  rw [h]

theorem Warning.expireMark_cfg_state (x : Warning) (now : Nat) :
    (x.expireMark now).cfg = x.cfg ∧ (x.expireMark now).state = x.state := by
  unfold Warning.expireMark
  (repeat' split) <;> exact ⟨rfl, rfl⟩

/-! ## The chime queue -/

/-- Where an entry is inserted: behind those of its class or a better one (R103). -/
theorem chimeInsert_split (e : ChimeEntry) (q : List ChimeEntry) :
    ∃ front back, q = front ++ back ∧ chimeInsert e q = front ++ e :: back ∧
      (∀ x ∈ front, x.cls.rank ≤ e.cls.rank) ∧ ∀ x, back.head? = some x → e.cls.rank < x.cls.rank := by
  induction q with
  | nil => exact ⟨[], [], rfl, rfl, by simp, by simp⟩
  | cons x rest ih =>
    unfold chimeInsert
    split
    · rename_i hlt
      exact ⟨[], x :: rest, rfl, rfl, by simp, by simpa using hlt⟩
    · rename_i hge
      obtain ⟨front, back, rfl, hinsert, hfront, hback⟩ := ih
      refine ⟨x :: front, back, rfl, by rw [hinsert]; rfl, ?_, hback⟩
      intro y hy
      obtain rfl | hy := List.mem_cons.mp hy
      · exact Nat.le_of_not_lt hge
      · exact hfront y hy

/-- In a queue in order of class all that follows the new entry is of a worse class. -/
theorem chimeInsert_sorted_split {e : ChimeEntry} {q : List ChimeEntry}
    (h : q.Pairwise (fun x y => x.cls.rank ≤ y.cls.rank)) :
    ∃ front back, q = front ++ back ∧ chimeInsert e q = front ++ e :: back ∧
      (∀ x ∈ front, x.cls.rank ≤ e.cls.rank) ∧ ∀ x ∈ back, e.cls.rank < x.cls.rank := by
  obtain ⟨front, back, rfl, hinsert, hfront, hback⟩ := chimeInsert_split e q
  refine ⟨front, back, rfl, hinsert, hfront, ?_⟩
  obtain ⟨-, hpair, -⟩ := List.pairwise_append.mp h
  cases back with
  | nil => simp
  | cons y rest =>
    obtain ⟨hy, -⟩ := List.pairwise_cons.mp hpair
    have hlt := hback y rfl
    intro x hx
    obtain rfl | hx := List.mem_cons.mp hx
    · exact hlt
    · exact hlt.trans_le (hy x hx)

/-- The laws of R103 as a property of the queue alone. -/
def ChimeLaw (q : List ChimeEntry) : Prop :=
  q.length ≤ 8 ∧ (q.map ChimeEntry.warning).Nodup ∧ q.Pairwise (fun x y => x.cls.rank ≤ y.cls.rank)

theorem State.chimeLaw_iff {s : State} : s.chimeLaw ↔ ChimeLaw s.chime.queue := Iff.rfl

theorem ChimeLaw.sublist {p q : List ChimeEntry} (h : ChimeLaw q) (hp : p.Sublist q) : ChimeLaw p := by
  obtain ⟨hlen, hkeys, hsorted⟩ := h
  exact ⟨hp.length_le.trans hlen, hkeys.sublist (hp.map _), hsorted.sublist hp⟩

theorem ChimeLaw.insert {e : ChimeEntry} {q : List ChimeEntry} (h : ChimeLaw q) (hlen : q.length < 8)
    (hnew : e.warning ∉ q.map ChimeEntry.warning) : ChimeLaw (chimeInsert e q) := by
  obtain ⟨-, hkeys, hsorted⟩ := h
  refine ⟨by simpa using hlen, ?_, ?_⟩
  · obtain ⟨front, back, rfl, hinsert, -⟩ := chimeInsert_split e q
    have hperm : (front ++ e :: back).Perm (e :: (front ++ back)) := List.perm_middle
    rw [hinsert, (hperm.map ChimeEntry.warning).nodup_iff, List.map_cons]
    exact List.nodup_cons.mpr ⟨hnew, hkeys⟩
  · obtain ⟨front, back, rfl, hinsert, hfront, hback⟩ := chimeInsert_sorted_split (e := e) hsorted
    obtain ⟨hf, hb, hcross⟩ := List.pairwise_append.mp hsorted
    rw [hinsert]
    refine List.pairwise_append.mpr ⟨hf, List.pairwise_cons.mpr ⟨fun x hx => (hback x hx).le, hb⟩, ?_⟩
    intro x hx y hy
    obtain rfl | hy := List.mem_cons.mp hy
    · exact hfront x hx
    · exact hcross x hx y hy

theorem chimeWithout_sublist (q : List ChimeEntry) (w : Nat) : (chimeWithout q w).Sublist q := List.filter_sublist

theorem Chimes.holds_iff {c : Chimes} {w : Nat} : c.holds w = true ↔ w ∈ c.queue.map ChimeEntry.warning := by
  simp [Chimes.holds]

theorem Chimes.holds_eq_false {c : Chimes} {w : Nat} : c.holds w = false ↔ w ∉ c.queue.map ChimeEntry.warning := by
  rw [← Chimes.holds_iff, Bool.not_eq_true]

/-! ## An offer -/

/-- What a newcomer leaves in the queue: with a preempted class C entry gone, and reported (R109). -/
theorem Chimes.insert_queue (c : Chimes) (now w : Nat) (k : Class) :
    ((c.insert now w k).1.queue = chimeInsert { warning := w, cls := k } c.queue ∧ (c.insert now w k).2 = []) ∨
      ∃ v, (c.insert now w k).1.queue = chimeWithout (chimeInsert { warning := w, cls := k } c.queue) v ∧
        (c.insert now w k).2 = [v] := by
  unfold Chimes.insert
  dsimp only
  split
  · unfold Chimes.newHead
    split
    · exact .inr ⟨_, by simp, rfl⟩
    · exact .inl ⟨by simp, rfl⟩
  · exact .inl ⟨rfl, rfl⟩

/-- The outcomes of an offer (R103, R105): the queue as it was; or a newcomer in a queue with room, once its last entry is
displaced where it was full. -/
theorem Chimes.offer_cases (c : Chimes) (now w : Nat) (k : Class) :
    ((c.offer now w k).chime = c ∧ (c.offer now w k).reports = []) ∨
      (c.holds w = false ∧ c.queue.length < 8 ∧ (c.offer now w k).chime = (c.insert now w k).1 ∧
        (c.offer now w k).reports = (c.insert now w k).2) ∨
      ∃ last, c.holds w = false ∧ 8 ≤ c.queue.length ∧ c.queue.getLast? = some last ∧ k.rank < last.cls.rank ∧
        (c.offer now w k).chime = (({ c with queue := c.queue.dropLast }).insert now w k).1 ∧
        (c.offer now w k).reports = last.warning :: (({ c with queue := c.queue.dropLast }).insert now w k).2 := by
  unfold Chimes.offer
  split
  · exact .inl ⟨rfl, rfl⟩
  · rename_i hnew
    have hnew : c.holds w = false := by simpa using hnew
    split
    · rename_i hroom
      exact .inr (.inl ⟨hnew, hroom, rfl, rfl⟩)
    · rename_i hfull
      split
      · exact .inl ⟨rfl, rfl⟩
      · rename_i last hlast
        split
        · rename_i hrank
          exact .inr (.inr ⟨last, hnew, Nat.le_of_not_lt hfull, hlast, hrank, rfl, rfl⟩)
        · exact .inl ⟨rfl, rfl⟩

theorem ChimeLaw.insertResult {c : Chimes} (now : Nat) {w : Nat} (k : Class) (h : ChimeLaw c.queue)
    (hlen : c.queue.length < 8) (hnew : c.holds w = false) : ChimeLaw (c.insert now w k).1.queue := by
  have hinsert : ChimeLaw (chimeInsert { warning := w, cls := k } c.queue) :=
    h.insert hlen (Chimes.holds_eq_false.mp hnew)
  obtain ⟨hq, -⟩ | ⟨v, hq, -⟩ := c.insert_queue now w k
  · rwa [hq]
  · rw [hq]
    exact hinsert.sublist (chimeWithout_sublist _ _)

theorem holds_dropLast {c : Chimes} {w : Nat} (h : c.holds w = false) :
    ({ c with queue := c.queue.dropLast } : Chimes).holds w = false := by
  rw [Chimes.holds_eq_false] at h ⊢
  exact fun hw => h ((c.queue.dropLast_sublist.map _).subset hw)

theorem ChimeLaw.offer {c : Chimes} (now w : Nat) (k : Class) (h : ChimeLaw c.queue) :
    ChimeLaw (c.offer now w k).chime.queue := by
  obtain ⟨hc, -⟩ | ⟨hnew, hlen, hc, -⟩ | ⟨last, hnew, hfull, -, -, hc, -⟩ := c.offer_cases now w k
  · rwa [hc]
  · rw [hc]
    exact h.insertResult now k hlen hnew
  · rw [hc]
    refine ChimeLaw.insertResult now k (c := { c with queue := c.queue.dropLast })
      (h.sublist c.queue.dropLast_sublist) ?_ (holds_dropLast hnew)
    have := h.1
    simp only [List.length_dropLast]
    omega

theorem Chimes.mem_insert {c : Chimes} {now w : Nat} {k : Class} {e : ChimeEntry}
    (h : e ∈ (c.insert now w k).1.queue) :
    (e = { warning := w, cls := k } ∨ e ∈ c.queue) ∧ e.warning ∉ (c.insert now w k).2 := by
  obtain ⟨hq, hr⟩ | ⟨v, hq, hr⟩ := c.insert_queue now w k
  · rw [hq, mem_chimeInsert] at h
    exact ⟨h, by simp [hr]⟩
  · rw [hq, chimeWithout, List.mem_filter, mem_chimeInsert] at h
    exact ⟨h.1, by simpa [hr] using h.2⟩

/-- After an offer the queue holds the newcomer and entries it held, none of them reported. -/
theorem Chimes.mem_offer {c : Chimes} {now w : Nat} {k : Class} {e : ChimeEntry} (hlaw : ChimeLaw c.queue)
    (h : e ∈ (c.offer now w k).chime.queue) :
    (e = { warning := w, cls := k } ∨ e ∈ c.queue) ∧ e.warning ∉ (c.offer now w k).reports := by
  obtain ⟨hc, hr⟩ | ⟨hnew, hlen, hc, hr⟩ | ⟨last, hnew, hfull, hlast, -, hc, hr⟩ := c.offer_cases now w k
  · rw [hc] at h
    exact ⟨.inr h, by simp [hr]⟩
  · rw [hc] at h
    rw [hr]
    exact Chimes.mem_insert h
  · rw [hc] at h
    obtain ⟨hmem, hnot⟩ := Chimes.mem_insert h
    have hsplit : c.queue.dropLast ++ [last] = c.queue := List.dropLast_append_getLast? last hlast
    have hkeys := hlaw.2.1
    rw [← hsplit, List.map_append] at hkeys
    have hlastNot : last.warning ∉ c.queue.dropLast.map ChimeEntry.warning := fun hm =>
      (List.nodup_append.mp hkeys).2.2 _ hm _ (by simp) rfl
    have hheld : last.warning ≠ w := by
      rintro rfl
      exact Chimes.holds_eq_false.mp hnew (by rw [← hsplit]; simp)
    refine ⟨hmem.imp_right fun he => List.mem_of_mem_dropLast he, ?_⟩
    rw [hr, List.mem_cons, not_or]
    refine ⟨?_, hnot⟩
    obtain rfl | he := hmem
    · exact hheld.symm
    · intro heq
      exact hlastNot (heq ▸ List.mem_map_of_mem he)

/-! ## Reports -/

theorem State.chimeReport_entry_other (s : State) {n m : Nat} (h : m ≠ n) :
    (s.chimeReport n).warn.entry m = s.warn.entry m := by
  unfold State.chimeReport
  split
  · split
    · exact WarnUnit.entry_setEntry_other _ h
    · rfl
  · rfl

theorem State.chimeReports_entry_other (s : State) {l : List Nat} {m : Nat} (h : m ∉ l) :
    (l.foldl State.chimeReport s).warn.entry m = s.warn.entry m := by
  induction l generalizing s with
  | nil => rfl
  | cons n rest ih =>
    obtain ⟨hn, hrest⟩ := not_or.mp (List.mem_cons.not.mp h)
    rw [List.foldl_cons, ih _ hrest, s.chimeReport_entry_other hn]

theorem State.chimeReports_chime (s : State) (l : List Nat) : (l.foldl State.chimeReport s).chime = s.chime := by
  induction l generalizing s with
  | nil => rfl
  | cons n rest ih => rw [List.foldl_cons, ih, (s.chimeReport_frame n).2.2.2.2.2.2.2.2.2.2.1]

theorem State.offerChime_chime (s : State) (n : Nat) (k : Class) :
    (s.offerChime n k).chime = (s.chime.offer s.pw.time n k).chime := by
  unfold State.offerChime
  rw [State.chimeReports_chime]
  split <;> simp

theorem State.offerChime_entry_other (s : State) {n m : Nat} {k : Class}
    (h : m ∉ (s.chime.offer s.pw.time n k).reports) : (s.offerChime n k).warn.entry m = s.warn.entry m := by
  unfold State.offerChime
  rw [State.chimeReports_entry_other _ h]
  split <;> simp

/-! ## Every chime is that of an ACTIVE warning -/

/-- The law of R97 and R101 on what it reads: the table, the role and the chime queue. -/
def Sounding (w : WarnUnit) (r : Role) (q : List ChimeEntry) : Prop :=
  ∀ e ∈ q, ∃ x, w.entry e.warning = some x ∧ x.state = .active ∧ x.cfg.audience.includes r = true ∧ x.cfg.cls = e.cls

theorem Sounding.sublist {w : WarnUnit} {r : Role} {p q : List ChimeEntry} (h : Sounding w r q) (hp : p ⊆ q) :
    Sounding w r p := fun e he => h e (hp he)

/-- The law reads the entries of the waiting warnings alone. -/
theorem Sounding.congr {w v : WarnUnit} {r : Role} {q : List ChimeEntry} (h : Sounding w r q)
    (hentry : ∀ e ∈ q, v.entry e.warning = w.entry e.warning) : Sounding v r q := by
  intro e he
  rw [hentry e he]
  exact h e he

theorem Sounding.map {w v : WarnUnit} {r : Role} {q : List ChimeEntry} {f : Warning → Warning} (h : Sounding w r q)
    (hentry : ∀ n, v.entry n = (w.entry n).map f) (hf : ∀ x, (f x).cfg = x.cfg ∧ (f x).state = x.state) :
    Sounding v r q := by
  intro e he
  obtain ⟨x, hx, hstate, haud, hcls⟩ := h e he
  obtain ⟨hcfg, hst⟩ := hf x
  exact ⟨f x, by rw [hentry, hx]; rfl, hst.trans hstate, by rwa [hcfg], by rwa [hcfg]⟩

/-- An entry changed under its calibration keeps the law if it stays ACTIVE or does not wait. -/
theorem Sounding.setEntry {w : WarnUnit} {r : Role} {q : List ChimeEntry} {n : Nat} {e e' : Warning}
    (h : Sounding w r q) (he : w.entry n = some e) (hcfg : e'.cfg = e.cfg)
    (hactive : e.state = .active → e'.state = .active ∨ n ∉ q.map ChimeEntry.warning) :
    Sounding (w.setEntry n e') r q := by
  intro x hx
  obtain ⟨y, hy, hstate, haud, hcls⟩ := h x hx
  by_cases hn : x.warning = n
  · subst hn
    obtain rfl : y = e := by simpa [hy] using he
    have hstay : e'.state = .active :=
      (hactive hstate).resolve_right fun hnot => hnot (List.mem_map_of_mem hx)
    exact ⟨e', WarnUnit.entry_setEntry_same e' hy, hstay, by rwa [hcfg], by rwa [hcfg]⟩
  · exact ⟨y, by rw [WarnUnit.entry_setEntry_other e' hn, hy], hstate, haud, hcls⟩

/-- The two laws together. -/
def State.soundingLaw (s : State) : Prop :=
  ChimeLaw s.chime.queue ∧ (s.pw.state = .load → s.chime.queue = []) ∧
    Sounding s.warn s.pw.role s.chime.queue

theorem State.soundingLaw_iff {s : State} : s.soundingLaw ↔ s.chimeLaw ∧ s.foremostLaw := Iff.rfl

/-- The state where an entry of another state than ACTIVE has risen keeps the laws (R89). -/
theorem State.soundingLaw_raise {s : State} {n : Nat} {e e' : Warning} (hs : s.soundingLaw)
    (he : s.warn.entry n = some e) (hcfg : e'.cfg = e.cfg) (hinactive : e.state ≠ .active)
    (hpower : s.pw.state = .standby ∨ s.pw.state = .active) : (s.raiseWarning n e').soundingLaw := by
  obtain ⟨hlaw, -, hsound⟩ := hs
  have hload (t : State) (h : t.pw = s.pw) : t.pw.state = .load → t.chime.queue = [] := by
    rw [h]
    intro hl
    simp [hl] at hpower
  have hnot : n ∉ s.chime.queue.map ChimeEntry.warning := by
    intro hn
    obtain ⟨x, hx, rfl⟩ := List.mem_map.mp hn
    obtain ⟨y, hy, hstate, -⟩ := hsound x hx
    exact hinactive (Option.some.inj (he.symm.trans hy) ▸ hstate)
  have hset (x : Warning) (hx : x.cfg = e.cfg) : Sounding (s.warn.setEntry n x) s.pw.role s.chime.queue :=
    hsound.setEntry he hx fun _ => .inr hnot
  unfold State.raiseWarning
  split
  · exact ⟨by simpa using hlaw, hload _ (by simp), by
      simpa using hset { e' with state := .acked, count := 0, mark := none, edgeTimer := 0 } hcfg⟩
  · dsimp only
    have hrisen : Sounding { s.warn.setEntry n
        { e' with state := .active, count := 0, raise := some s.warn.nextRaise, edgeTimer := 0 } with
        nextRaise := s.warn.nextRaise + 1 } s.pw.role s.chime.queue :=
      (hset { e' with state := .active, count := 0, raise := some s.warn.nextRaise, edgeTimer := 0 } hcfg).congr
        fun _ _ => WarnUnit.entry_of_table rfl _
    split
    · rename_i haud
      refine ⟨?_, hload _ (by simp), ?_⟩
      · rw [State.offerChime_chime]
        simpa using hlaw.offer s.pw.time n e'.cfg.cls
      · intro x hx
        rw [State.offerChime_chime] at hx
        obtain ⟨hmem, hreport⟩ := Chimes.mem_offer (by simpa using hlaw) hx
        rw [State.offerChime_entry_other _ hreport]
        simp only [State.offerChime_frame, State.setWarn_pw, State.setWarn_warn, State.setWarn_chime] at hmem haud ⊢
        obtain rfl | hmem := hmem
        · exact ⟨_, (WarnUnit.entry_of_table rfl _).trans (WarnUnit.entry_setEntry_same _ he), rfl, haud, rfl⟩
        · exact hrisen x hmem
    · exact ⟨by simpa using hlaw, hload _ (by simp), by simpa using hrisen⟩

/-- Fewer chimes, with the power state and the role as they are. -/
theorem State.soundingLaw.fewer {s t : State} (hs : s.soundingLaw) (hq : t.chime.queue.Sublist s.chime.queue)
    (hpw : t.pw = s.pw) (hsound : Sounding t.warn s.pw.role t.chime.queue) : t.soundingLaw := by
  obtain ⟨hlaw, hload, -⟩ := hs
  refine ⟨hlaw.sublist hq, fun hl => ?_, by rwa [hpw]⟩
  rw [hload (hpw ▸ hl)] at hq
  exact List.sublist_nil.mp hq

theorem Act.keeps_soundingLaw {s t : State} (h : Act s t) (hs : s.soundingLaw) : t.soundingLaw := by
  have hnotLoad {p : Power} (hp : p = .standby ∨ p = .active) : p ≠ .load := by
    rintro rfl
    simp at hp
  obtain ⟨hlaw, hload, hsound⟩ := id hs
  cases h with
  | straps hl =>
    rw [hload hl] at hsound hlaw
    refine ⟨?_, ?_, ?_⟩ <;> simp [hload hl, hlaw, Sounding]
  | power p hp => exact ⟨by simpa using hlaw, by simpa [hp.state] using hload, by simpa [hp.role] using hsound⟩
  | turn p _ hp => exact ⟨by simpa using hlaw, fun h => absurd h (by simpa using hnotLoad hp), by simpa using hsound⟩
  | sound p _ hp =>
    exact ⟨by simpa [State.awakenTone, Chimes.awaken] using hlaw,
      fun h => absurd h (by simpa [State.awakenTone] using hnotLoad hp),
      by simpa [State.awakenTone, Chimes.awaken] using hsound⟩
  | crank _ => exact ⟨by simpa [Chimes.silence] using hlaw, fun h => absurd h (by simp),
      by simpa [Chimes.silence] using hsound⟩
  | sleep _ => exact ⟨by simp [Chimes.sleep, ChimeLaw], fun h => absurd h (by simp [PowerUnit.sleep]),
      by simp [Chimes.sleep, Sounding]⟩
  | stabilise _ => exact ⟨by simpa using hlaw, fun h => absurd h (by simp [PowerUnit.wake]),
      by simpa [PowerUnit.wake] using hsound⟩
  | warn w htable _ =>
    exact hs.fewer (by simp) (by simp) (by simpa using hsound.congr fun _ _ => WarnUnit.entry_of_table htable _)
  | marks now =>
    refine hs.fewer (by simp) (by simp) ?_
    simpa using hsound.map (WarnUnit.entry_map (v := s.warn.expireMarks now) rfl)
      fun x => x.expireMark_cfg_state now
  | entry n e e' he hcfg hactive _ =>
    refine hs.fewer (by simp) (by simp) ?_
    simpa using hsound.setEntry he hcfg fun h => (hactive h).imp_right Chimes.holds_eq_false.mp
  | silence n e e' he hcfg _ =>
    have hsub : (chimeWithout s.chime.queue n).Sublist s.chime.queue := chimeWithout_sublist _ _
    refine hs.fewer ?_ (by simp) ?_
    · simpa [State.storeAndSilence, State.removeChime, remove_queue] using hsub
    · simpa [State.storeAndSilence, State.removeChime, remove_queue] using
        (hsound.sublist hsub.subset).setEntry he hcfg (e' := e') fun _ => .inr (by simp [chimeWithout])
  | raise n e e' he hcfg hinactive hpower => exact State.soundingLaw_raise hs he hcfg hinactive hpower
  | patternEnd w _ _ =>
    have hsub : (chimeWithout s.chime.queue w).Sublist s.chime.queue := chimeWithout_sublist _ _
    refine hs.fewer (by simpa using hsub) (by simp) ?_
    simp only [State.chimeReport_frame, State.setChime_chime, passToHead_queue]
    refine (hsound.sublist hsub.subset).congr fun e he => ?_
    rw [State.chimeReport_entry_other _ (by simpa using (List.mem_filter.mp he).2), State.setChime_warn]
  | click refusal =>
    have hq : (s.chime.askClick s.pw.time refusal).queue = s.chime.queue := by
      unfold Chimes.askClick
      split <;> rfl
    exact hs.fewer (by simp [hq]) (by simp) (by simpa [hq] using hsound)
  | _ => simpa [State.soundingLaw, State.takeDistance, Chimes.endClick] using hs

/-- Settles O55: an entry of the queue changes its state or leaves the queue by its own operations alone, and an offer comes
with an entry that has just become ACTIVE. -/
theorem chimeQueueKept : Obligations.ChimeQueueKept := by
  unfold Obligations.ChimeQueueKept
  intro s t hchime hforemost h
  rw [← State.soundingLaw_iff]
  refine step_keeps (P := State.soundingLaw) (fun _ _ => Act.keeps_soundingLaw) ?_ ?_ ⟨hchime, hforemost⟩ h
  · rintro s i hload ⟨-, hempty, -⟩
    refine ⟨?_, ?_, ?_⟩ <;> simp [hempty hload, ChimeLaw, Sounding]
  · intro s pins a ws _
    exact ⟨⟨Nat.zero_le 8, List.nodup_nil, List.Pairwise.nil⟩, fun _ => rfl, List.forall_mem_nil _⟩

end Sys2Proof.Machine
end

section
/-! PROOFS. The tone generator keeps its law (R106 to R110): it plays the pattern of the head. -/

namespace Sys2Proof.Machine

/-! ## The generator and the queue -/

/-- What the generator does while it is not SILENT follows from the queue (R106, R108). -/
structure Chimes.Playing (c : Chimes) : Prop where
  pattern_iff : c.mode ≠ .silent → (c.mode = .pattern ↔ c.queue ≠ [])
  head : c.mode = .pattern → c.playing = c.queue.head?.map ChimeEntry.warning ∧ c.step.isSome = true
  none : c.mode ≠ .pattern → c.playing = none ∧ c.step = none
  click_iff : c.mode = .click ↔ c.click.isSome = true

/-- The law of the tone generator on what it reads: the power state and the generator. -/
def ToneLaw (p : Power) (c : Chimes) : Prop := (c.mode = .silent ↔ ¬ (p = .standby ∨ p = .active)) ∧ c.Playing

theorem State.toneLaw_iff {s : State} : s.toneLaw ↔ ToneLaw s.pw.state s.chime :=
  ⟨fun ⟨hsilent, hpattern, hhead, hnone, hclick⟩ => ⟨hsilent, hpattern, hhead, hnone, hclick⟩,
    fun ⟨hsilent, hpattern, hhead, hnone, hclick⟩ => ⟨hsilent, hpattern, hhead, hnone, hclick⟩⟩

/-- The generator is SILENT after it passes to the head just when it was before. -/
@[simp] theorem Chimes.passToHead_silent {c : Chimes} {now : Nat} : (c.passToHead now).mode = .silent ↔ c.mode = .silent := by
  unfold Chimes.passToHead
  split
  · rfl
  · rename_i h
    split <;> simp [h]

/-- From any mode but SILENT the generator that passes to the head follows the queue. -/
theorem Chimes.Playing.ofPassToHead {c : Chimes} (now : Nat) (h : c.mode ≠ .silent) : (c.passToHead now).Playing := by
  unfold Chimes.passToHead
  rw [if_neg h]
  split
  · rename_i hq
    constructor <;> simp [hq]
  · rename_i e q hq
    constructor <;> simp [hq]

/-- While the generator is SILENT its queue may change. -/
theorem Chimes.Playing.silent {c : Chimes} (h : c.Playing) (hmode : c.mode = .silent) (q : List ChimeEntry) :
    ({ c with queue := q } : Chimes).Playing := by
  obtain ⟨-, -, hnone, hclick⟩ := h
  exact ⟨fun hs => absurd hmode hs, fun hp => absurd (hmode.symm.trans hp) (by simp), hnone, hclick⟩

/-- While the generator stands, the queue may change behind its head. -/
theorem Chimes.Playing.sameHead {c : Chimes} (h : c.Playing) {q : List ChimeEntry} (hq : q.head? = c.queue.head?) :
    ({ c with queue := q } : Chimes).Playing := by
  obtain ⟨hpattern, hhead, hnone, hclick⟩ := h
  have hempty : q = [] ↔ c.queue = [] := by rw [← List.head?_eq_none_iff, hq, List.head?_eq_none_iff]
  refine ⟨fun hs => ?_, fun hp => ?_, hnone, hclick⟩
  · rw [hpattern hs, ne_eq, ne_eq, hempty]
  · exact hq ▸ hhead hp

theorem Chimes.Playing.passToHead {c : Chimes} (h : c.Playing) (now : Nat) (q : List ChimeEntry) :
    (({ c with queue := q } : Chimes).passToHead now).Playing := by
  by_cases hs : c.mode = .silent
  · rw [Chimes.passToHead, if_pos hs]
    exact h.silent hs q
  · exact .ofPassToHead now hs

/-! ## Offers and removals -/

theorem chimeInsert_head? {e : ChimeEntry} {q : List ChimeEntry} (h : (chimeInsert e q).head? ≠ some e) :
    (chimeInsert e q).head? = q.head? := by
  cases q with
  | nil => exact absurd rfl h
  | cons x rest =>
    unfold chimeInsert at h ⊢
    split at h
    · exact absurd rfl h
    · rename_i hge
      rw [if_neg hge]
      rfl

theorem Chimes.Playing.insert {c : Chimes} (h : c.Playing) (now w : Nat) (k : Class) : (c.insert now w k).1.Playing := by
  unfold Chimes.insert
  dsimp only
  split
  · unfold Chimes.newHead
    split <;> exact h.passToHead now _
  · rename_i hhead
    exact h.sameHead (chimeInsert_head? hhead)

@[simp] theorem Chimes.insert_silent {c : Chimes} {now w : Nat} {k : Class} :
    (c.insert now w k).1.mode = .silent ↔ c.mode = .silent := by
  unfold Chimes.insert
  dsimp only
  split
  · unfold Chimes.newHead
    split <;> simp
  · rfl

theorem dropLast_head? {α : Type} {l : List α} (h : 2 ≤ l.length) : l.dropLast.head? = l.head? := by
  match l, h with
  | _ :: _ :: _, _ => rfl

theorem Chimes.Playing.offer {c : Chimes} (h : c.Playing) (now w : Nat) (k : Class) :
    (c.offer now w k).chime.Playing ∧ ((c.offer now w k).chime.mode = .silent ↔ c.mode = .silent) := by
  obtain ⟨hc, -⟩ | ⟨-, -, hc, -⟩ | ⟨last, -, hfull, -, -, hc, -⟩ := c.offer_cases now w k
  · rw [hc]
    exact ⟨h, Iff.rfl⟩
  · rw [hc]
    exact ⟨h.insert now w k, Chimes.insert_silent⟩
  · rw [hc]
    exact ⟨Chimes.Playing.insert (h.sameHead (dropLast_head? (by omega))) now w k, Chimes.insert_silent⟩

theorem chimeWithout_head? {q : List ChimeEntry} {w : Nat} (h : q.head?.map ChimeEntry.warning ≠ some w) :
    (chimeWithout q w).head? = q.head? := by
  cases q with
  | nil => rfl
  | cons e rest =>
    have hne : e.warning ≠ w := by simpa using h
    simp [chimeWithout, hne]

theorem Chimes.Playing.remove {c : Chimes} (h : c.Playing) (now w : Nat) :
    (c.remove now w).Playing ∧ ((c.remove now w).mode = .silent ↔ c.mode = .silent) := by
  unfold Chimes.remove
  split
  · dsimp only
    split
    · exact ⟨h.passToHead now _, Chimes.passToHead_silent⟩
    · rename_i hother
      refine ⟨?_, Iff.rfl⟩
      by_cases hs : c.mode = .silent
      · exact h.silent hs _
      · refine h.sameHead (chimeWithout_head? fun hhead => ?_)
        have hp : c.mode = .pattern := (h.pattern_iff hs).mpr fun hq => by simp [hq] at hhead
        exact hother ⟨hp, (h.head hp).1.trans hhead⟩
  · exact ⟨h, Iff.rfl⟩

theorem Chimes.Playing.ofSilence (c : Chimes) : c.silence.Playing := by
  constructor <;> simp [Chimes.silence]

theorem Chimes.Playing.askClick {c : Chimes} (h : c.Playing) (now : Nat) (refusal : Bool) :
    (c.askClick now refusal).Playing ∧ ((c.askClick now refusal).mode = .silent ↔ c.mode = .silent) := by
  unfold Chimes.askClick
  split
  · rename_i hmode
    have hs : c.mode ≠ .silent := by rintro hs; simp [hs] at hmode
    have hp : c.mode ≠ .pattern := by rintro hp; simp [hp] at hmode
    have hq : c.queue = [] := by simpa [hp] using h.pattern_iff hs
    obtain ⟨hplaying, hstep⟩ := h.none hp
    exact ⟨by constructor <;> simp [hq, hplaying, hstep], by simp [hs]⟩
  · exact ⟨h, Iff.rfl⟩

/-- A generator in CLICK that ends the click is IDLE (R112). -/
theorem Chimes.Playing.endClick {c : Chimes} (h : c.Playing) (hmode : c.mode = .click) : c.endClick.Playing := by
  have hq : c.queue = [] := by simpa [hmode] using h.pattern_iff (by simp [hmode])
  obtain ⟨hplaying, hstep⟩ := h.none (by simp [hmode])
  constructor <;> simp [Chimes.endClick, hq, hplaying, hstep]

theorem Chimes.Playing.setClick {c : Chimes} (h : c.Playing) (hmode : c.mode = .click) (k : Click) :
    ({ c with click := some k } : Chimes).Playing :=
  ⟨h.pattern_iff, h.head, h.none, by simp [hmode]⟩

theorem Chimes.Playing.setStep {c : Chimes} (h : c.Playing) (hmode : c.mode = .pattern) (x : PatternStep) :
    ({ c with step := some x } : Chimes).Playing :=
  ⟨h.pattern_iff, fun hp => ⟨(h.head hp).1, rfl⟩, fun hp => absurd hmode hp, h.click_iff⟩

/-! ## Every step -/

/-- A change that leaves SILENT alone, in the same power state. -/
theorem ToneLaw.change {p : Power} {c d : Chimes} (h : ToneLaw p c)
    (hd : d.Playing ∧ (d.mode = .silent ↔ c.mode = .silent)) : ToneLaw p d := by
  obtain ⟨hsilent, -⟩ := h
  obtain ⟨hplaying, hmode⟩ := hd
  exact ⟨hmode.trans hsilent, hplaying⟩

/-- Outside STANDBY and ACTIVE the generator is silent. -/
theorem ToneLaw.silence {p : Power} (c : Chimes) (h : ¬ (p = .standby ∨ p = .active)) : ToneLaw p c.silence :=
  ⟨iff_of_true rfl h, .ofSilence c⟩

theorem ToneLaw.awaken {p : Power} (c : Chimes) (now : Nat) (h : p = .standby ∨ p = .active) :
    ToneLaw p (c.awaken now) :=
  ⟨iff_of_false (by simp [Chimes.awaken]) (not_not_intro h), .ofPassToHead now (by simp)⟩

theorem ToneLaw.power {p q : Power} {c : Chimes} (h : ToneLaw p c)
    (hpq : (p = .standby ∨ p = .active) ↔ (q = .standby ∨ q = .active)) : ToneLaw q c := by
  obtain ⟨hsilent, hplaying⟩ := h
  exact ⟨hsilent.trans (not_congr hpq), hplaying⟩

theorem Act.keeps_toneLaw {s t : State} (h : Act s t) (hs : s.toneLaw) : t.toneLaw := by
  rw [State.toneLaw_iff] at hs ⊢
  obtain ⟨hsilent, hplaying⟩ := id hs
  cases h with
  | power p hp => simpa [hp.state] using hs
  | turn p hfrom hto => exact hs.power (iff_of_true hfrom hto)
  | sound p _ hto => exact .awaken _ _ hto
  | crank _ => exact .silence _ (by simp)
  | sleep _ =>
    simp only [State.enterSleep_pw, State.enterSleep_chime]
    exact (ToneLaw.silence s.chime (p := s.pw.sleep.state) (by simp [PowerUnit.sleep])).imp id fun h => h.silent rfl []
  | stabilise hsleep => exact hs.power (iff_of_false (by simp [hsleep]) (by simp [PowerUnit.wake]))
  | silence n e e' _ _ _ =>
    simpa [State.storeAndSilence, State.removeChime] using hs.change (hplaying.remove s.pw.time n)
  | raise n e e' _ _ _ _ =>
    unfold State.raiseWarning
    split
    · simpa using hs
    · dsimp only
      split
      · rw [State.offerChime_chime]
        simpa using hs.change (hplaying.offer s.pw.time n e'.cfg.cls)
      · simpa using hs
  | patternEnd w _ _ =>
    simpa using hs.change ⟨hplaying.passToHead s.pw.time (chimeWithout s.chime.queue w), Chimes.passToHead_silent⟩
  | click refusal => simpa using hs.change (hplaying.askClick s.pw.time refusal)
  | secondClick k hmode => simpa using hs.change ⟨hplaying.setClick hmode k, Iff.rfl⟩
  | clickEnd hmode => simpa using hs.change ⟨hplaying.endClick hmode, by simp [Chimes.endClick, hmode]⟩
  | patternStep x hmode => simpa using hs.change ⟨hplaying.setStep hmode x, Iff.rfl⟩
  | _ => simpa [State.takeDistance] using hs

theorem State.toneLaw_step {s t : State} (hs : s.toneLaw) (h : step s = .next t) : t.toneLaw := by
  refine step_keeps (P := State.toneLaw) (fun _ _ => Act.keeps_toneLaw) ?_ ?_ hs h
  · intro s i _ hs
    simpa [State.toneLaw_iff, State.takeImage_duty] using hs
  · intro s pins a ws _
    exact State.toneLaw_iff.mpr ⟨iff_of_true rfl (by simp [State.reset]), .ofSilence State.reset.chime⟩

/-- The generator that plays a pattern plays that of the best class that waits. -/
theorem Chimes.Playing.playingClass_a {c : Chimes} (h : c.Playing) (hlaw : ChimeLaw c.queue) (hmode : c.mode = .pattern)
    (ha : ∃ e ∈ c.queue, e.cls = .a) : c.playingClass = some .a := by
  obtain ⟨hplaying, -⟩ := h.head hmode
  obtain ⟨-, -, hsorted⟩ := hlaw
  obtain ⟨e, he, hcls⟩ := ha
  unfold Chimes.playingClass
  cases hq : c.queue with
  | nil => simp [hq] at he
  | cons x rest =>
    have hx : x.cls = .a := by
      have hrank : x.cls.rank ≤ e.cls.rank := by
        rw [hq] at he hsorted
        obtain rfl | he := List.mem_cons.mp he
        · exact Nat.le_refl _
        · exact (List.pairwise_cons.mp hsorted).1 e he
      cases hk : x.cls <;> simp [hk, hcls, Class.rank] at hrank ⊢
    simp [hplaying, hq, hx]

/-- Settles O56: the generator follows the head by Chimes.Playing, and the head is of the best class by the order of R103. -/
theorem toneKept : Obligations.ToneKept := by
  unfold Obligations.ToneKept
  refine ⟨fun s t => State.toneLaw_step, fun s t htone hchime hforemost h hmode ha => ?_⟩
  obtain ⟨-, hplaying⟩ := State.toneLaw_iff.mp (State.toneLaw_step htone h)
  obtain ⟨hlaw, -⟩ := chimeQueueKept s t hchime hforemost h
  exact hplaying.playingClass_a hlaw hmode ha

end Sys2Proof.Machine
end

section
/-! PROOFS. The tallies and the station records keep their ranges (R158, R165), and no signal entry is held while its station is
ABSENT (R164). -/

namespace Sys2Proof.Machine

/-! ## One station record -/

theorem StationTallies.bounded_count {t : StationTallies} (h : t.bounded) (o : Outcome3) : (t.count o).bounded := by
  unfold StationTallies.bounded at h ⊢
  cases o <;> simp only [StationTallies.count, bump16] <;> omega

theorem StationTallies.bounded_zero : StationTallies.zero.bounded := by
  simp [StationTallies.bounded, StationTallies.zero]

theorem StationTallies.bounded_slips {t : StationTallies} (h : t.bounded) :
    { t with slips := bump8 t.slips }.bounded := by
  unfold StationTallies.bounded bump8 at *
  simp only
  omega

theorem StationTallies.bounded_absents {t : StationTallies} (h : t.bounded) :
    { t with absents := bump8 t.absents }.bounded := by
  unfold StationTallies.bounded bump8 at *
  simp only
  omega

theorem Station.runStep_tallies (r : Station) (o : Outcome3) : (r.runStep o).tallies = r.tallies := by
  unfold Station.runStep
  (repeat' split) <;> rfl

theorem Station.bounded_syncStep {r : Station} (h : r.tallies.bounded) : r.syncStep.tallies.bounded := by
  unfold Station.syncStep
  split
  · exact StationTallies.bounded_slips h
  · exact h

theorem Station.bounded_move {r : Station} (h : r.tallies.bounded) (o : Outcome3) : (r.move o).tallies.bounded := by
  unfold Station.move
  split
  · exact h
  · rwa [Station.runStep_tallies]
  · exact Station.bounded_syncStep h
  · rwa [Station.runStep_tallies]

theorem Station.bounded_takeStatus {r : Station} (h : r.tallies.bounded) (v : BitVec 7) (arrival : Nat) :
    (r.takeStatus v arrival).tallies.bounded := by
  unfold Station.takeStatus
  dsimp only
  split
  · exact h
  · exact Station.bounded_move (StationTallies.bounded_count h _) _

/-- The ranges of a record that is not ABSENT (R158). -/
structure Station.Synced (r : Station) : Prop where
  hitRun : r.hitRun ≤ 1
  window : r.window.length ≤ 16
  state : r.state ≠ .absent

theorem Station.Synced.inRange {r : Station} (h : r.Synced) : r.inRange :=
  ⟨h.hitRun, h.window, fun habsent => absurd habsent h.state⟩

theorem windowAdd_length {w : List Outcome3} (h : w.length ≤ 16) (o : Outcome3) : (windowAdd w o).length ≤ 16 := by
  unfold windowAdd
  dsimp only
  split
  · simpa using h
  · rename_i hle
    exact Nat.le_of_not_lt hle

theorem Station.Synced.runStep {r : Station} (h : r.Synced) (o : Outcome3) : (r.runStep o).Synced := by
  unfold Station.runStep
  split
  · split
    · exact ⟨Nat.zero_le 1, Nat.zero_le 16, by simp⟩
    · rename_i hrun
      exact ⟨by simp only; omega, h.window, h.state⟩
  · exact ⟨Nat.zero_le 1, h.window, h.state⟩

theorem Station.Synced.syncStep {r : Station} (h : r.Synced) : r.syncStep.Synced := by
  unfold Station.syncStep
  split
  · exact ⟨Nat.zero_le 1, h.window, by simp⟩
  · exact h

theorem Station.Synced.addWindow {r : Station} (h : r.Synced) (o : Outcome3) :
    ({ r with window := windowAdd r.window o } : Station).Synced :=
  ⟨h.hitRun, windowAdd_length h.window o, h.state⟩

theorem Station.Synced.move {r : Station} (h : r.Synced) (o : Outcome3) : (r.move o).Synced := by
  unfold Station.move
  split
  · exact h
  · exact h.runStep o
  · exact (h.addWindow o).syncStep
  · exact (h.addWindow o).runStep o

/-- A record that takes a STATUS is no longer ABSENT (R161). -/
theorem Station.synced_takeStatus {r : Station} (h : r.inRange) (v : BitVec 7) (arrival : Nat) :
    (r.takeStatus v arrival).Synced := by
  obtain ⟨hrun, hwindow, -⟩ := h
  unfold Station.takeStatus
  dsimp only
  split
  · exact ⟨Nat.zero_le 1, Nat.zero_le 16, by simp⟩
  · rename_i hstate
    refine Station.Synced.move ?_ _
    exact ⟨hrun, hwindow, hstate⟩

/-- Whatever its ranges, a record that takes a STATUS is no longer ABSENT. -/
theorem Station.takeStatus_present (r : Station) (v : BitVec 7) (arrival : Nat) :
    (r.takeStatus v arrival).state ≠ .absent := by
  have hrun (x : Station) (o : Outcome3) (hx : x.state ≠ .absent) : (x.runStep o).state ≠ .absent := by
    unfold Station.runStep
    (repeat' split) <;> simp [hx]
  unfold Station.takeStatus
  dsimp only
  split
  · simp
  · rename_i hstate
    unfold Station.move
    split
    · exact hstate
    · exact hrun _ _ hstate
    · unfold Station.syncStep
      split
      · simp
      · exact hstate
    · exact hrun _ _ hstate

theorem Station.inRange_goAbsent (r : Station) : r.goAbsent.inRange :=
  ⟨Nat.zero_le 1, Nat.zero_le 16, fun _ => ⟨rfl, rfl, rfl⟩⟩

theorem Station.inRange_wake {r : Station} (h : r.inRange) : r.wake.inRange := by
  unfold Station.wake
  split
  · exact h
  · exact r.inRange_goAbsent

/-! ## The records of the Peer Supervisor -/

/-- A property that a change of one record keeps holds of every record after it. -/
theorem Peer.setStation_forall {P : Station → Prop} {p : Peer} (h : ∀ r ∈ p.stations, P r) (n : StationNo)
    {f : Station → Station} (hf : ∀ r, P r → P (f r)) : ∀ r ∈ (p.setStation n f).stations, P r := by
  intro r hr
  obtain hr | ⟨y, hy, rfl⟩ := mem_updateAt hr
  · exact h r hr
  · exact hf y (h y hy)

theorem forall_mem_map_of {α : Type} {P : α → Prop} {l : List α} {f : α → α} (h : ∀ x ∈ l, P x)
    (hf : ∀ x, P x → P (f x)) : ∀ x ∈ l.map f, P x := by
  intro x hx
  obtain ⟨y, hy, rfl⟩ := List.mem_map.mp hx
  exact hf y (h y hy)

theorem Peer.station_setStation_other (p : Peer) {n m : StationNo} (f : Station → Station) (h : m ≠ n) :
    (p.setStation n f).station m = p.station m := by
  have hne : m.toNat ≠ n.toNat := fun heq => h (BitVec.eq_of_toNat_eq heq)
  unfold Peer.station
  rw [List.getD_eq_getElem?_getD, List.getD_eq_getElem?_getD]
  simp [Peer.setStation, updateAt_getElem?, hne]

theorem Peer.station_setStation_same (p : Peer) {n : StationNo} (f : Station → Station)
    (h : n.toNat < p.stations.length) : (p.setStation n f).station n = f (p.station n) := by
  unfold Peer.station
  rw [List.getD_eq_getElem?_getD, List.getD_eq_getElem?_getD]
  simp [Peer.setStation, updateAt_getElem?, List.getElem?_eq_getElem h]

/-- A number without a record is ABSENT. -/
theorem Peer.length_of_present {p : Peer} {n : StationNo} (h : p.isAbsent n = false) : n.toNat < p.stations.length := by
  by_contra hout
  unfold Peer.isAbsent Peer.station at h
  rw [List.getD_eq_getElem?_getD, List.getElem?_eq_none (Nat.le_of_not_lt hout)] at h
  exact absurd h (by decide)

theorem Peer.isAbsent_takeStatus {p : Peer} {n m : StationNo} (v : BitVec 7) (arrival : Nat)
    (h : p.isAbsent m = false) : (p.setStation n (fun r => r.takeStatus v arrival)).isAbsent m = false := by
  unfold Peer.isAbsent
  by_cases hm : m = n
  · subst hm
    rw [Peer.station_setStation_same p _ (Peer.length_of_present h)]
    simpa using Station.takeStatus_present _ v arrival
  · rw [Peer.station_setStation_other p _ hm]
    exact h

theorem Peer.isAbsent_of_stations {p q : Peer} (h : q.stations = p.stations) (n : StationNo) :
    q.isAbsent n = p.isAbsent n := by
  unfold Peer.isAbsent Peer.station
  rw [h]

theorem Peer.isAbsent_map {p q : Peer} {f : Station → Station} (h : q.stations = p.stations.map f)
    (hf : ∀ r, (f r).state = r.state) (n : StationNo) : q.isAbsent n = p.isAbsent n := by
  unfold Peer.isAbsent Peer.station
  rw [h, List.getD_eq_getElem?_getD, List.getD_eq_getElem?_getD, List.getElem?_map]
  cases p.stations[n.toNat]? with
  | none => rfl
  | some r => simp [hf]

/-! ## The tallies -/

/-- The law of the tallies on what it reads. -/
def TallyLaw (t : OwnTallies) (p : Peer) : Prop := t.bounded ∧ ∀ r ∈ p.stations, r.tallies.bounded

theorem State.tallyLaw_iff {s : State} : s.tallyLaw ↔ TallyLaw s.tally s.peer := Iff.rfl

theorem State.chimeReports_tally_peer (s : State) (l : List Nat) :
    (l.foldl State.chimeReport s).tally = s.tally ∧ (l.foldl State.chimeReport s).peer = s.peer := by
  induction l generalizing s with
  | nil => exact ⟨rfl, rfl⟩
  | cons n rest ih =>
    obtain ⟨htally, hpeer⟩ := ih (s.chimeReport n)
    rw [List.foldl_cons, htally, hpeer]
    simp

theorem State.bounded_offerChime {s : State} (h : s.tally.bounded) (n : Nat) (k : Class) :
    (s.offerChime n k).tally.bounded := by
  unfold State.offerChime
  rw [(State.chimeReports_tally_peer _ _).1]
  split
  · exact OwnTallies.bounded_chimesDisplaced (by simpa using h)
  · simpa using h

theorem State.bounded_raiseWarning {s : State} (h : s.tally.bounded) (n : Nat) (e : Warning) :
    (s.raiseWarning n e).tally.bounded := by
  unfold State.raiseWarning
  split
  · simpa using h
  · dsimp only
    split
    · exact State.bounded_offerChime (by simpa using h) n _
    · simpa using h

theorem Act.keeps_tallyLaw {s t : State} (h : Act s t) (hs : s.tallyLaw) : t.tallyLaw := by
  rw [State.tallyLaw_iff] at hs ⊢
  obtain ⟨hown, hstations⟩ := id hs
  cases h with
  | stationsWake _ =>
    refine ⟨hown, forall_mem_map_of (P := fun r : Station => r.tallies.bounded) hstations fun r hr => ?_⟩
    unfold Station.wake Station.goAbsent
    split <;> exact hr
  | tally t ht => exact ⟨ht hown, hstations⟩
  | markAbsent n =>
    exact ⟨hown, Peer.setStation_forall (P := fun r => r.tallies.bounded) hstations n
      fun r hr => StationTallies.bounded_absents hr⟩
  | status n v arrival =>
    exact ⟨hown, Peer.setStation_forall (P := fun r => r.tallies.bounded) hstations n
      fun r hr => Station.bounded_takeStatus hr v arrival⟩
  | peer p hp => exact ⟨hown, by simpa [hp] using hstations⟩
  | clearTallies snap =>
    exact ⟨hown, forall_mem_map_of (P := fun r : Station => r.tallies.bounded) hstations
      fun _ _ => StationTallies.bounded_zero⟩
  | raise n e e' _ _ _ _ => exact ⟨State.bounded_raiseWarning hown n e', by simpa using hstations⟩
  | straps _ => exact ⟨hown, hstations⟩
  | _ => simpa [State.takeDistance, State.storeAndSilence, State.removeChime] using hs

/-! ## The station records -/

theorem Act.keeps_stationLaw {s t : State} (h : Act s t) (hs : s.stationLaw) : t.stationLaw := by
  cases h with
  | stationsWake _ => exact forall_mem_map_of hs fun _ => Station.inRange_wake
  | markAbsent n => exact Peer.setStation_forall hs n fun r _ => r.inRange_goAbsent
  | status n v arrival => exact Peer.setStation_forall hs n fun r hr => (Station.synced_takeStatus hr v arrival).inRange
  | peer p hp => simpa [State.stationLaw, hp] using hs
  | straps _ => exact hs
  | clearTallies snap => exact forall_mem_map_of hs fun _ hr => hr
  | _ => simpa [State.stationLaw, State.takeDistance, State.storeAndSilence, State.removeChime] using hs

/-! ## Entries and their stations -/

/-- The law of R164 on what it reads. -/
def BindingLaw (t : Signals) (p : Peer) : Prop :=
  ∀ k : SignalKind, (t.hdr k).fresh.held = true → ∃ n, (t.hdr k).bound = some n ∧ p.isAbsent n = false

theorem State.bindingLaw_iff {s : State} : s.bindingLaw ↔ BindingLaw s.sig s.peer := Iff.rfl

theorem BindingLaw.peer {t : Signals} {p q : Peer} (h : BindingLaw t p)
    (hq : ∀ n, p.isAbsent n = false → q.isAbsent n = false) : BindingLaw t q := by
  intro k hk
  obtain ⟨n, hbound, hpresent⟩ := h k hk
  exact ⟨n, hbound, hq n hpresent⟩

theorem Signals.hdr_stationLost (t : Signals) (n : StationNo) (k : SignalKind) :
    (t.stationLost n).hdr k = (t.hdr k).stationLost n := by
  cases k <;> rfl

theorem BindingLaw.markAbsent {t : Signals} {p : Peer} (h : BindingLaw t p) (n : StationNo) :
    BindingLaw (t.stationLost n) (p.setStation n Station.markAbsent) := by
  intro k hk
  rw [Signals.hdr_stationLost] at hk ⊢
  unfold SigHeader.stationLost at hk ⊢
  by_cases hn : (t.hdr k).bound = some n
  · rw [if_pos hn] at hk
    exact absurd hk (by simp [loseFreshness_not_held])
  · rw [if_neg hn] at hk ⊢
    obtain ⟨m, hbound, hpresent⟩ := h k hk
    refine ⟨m, hbound, ?_⟩
    unfold Peer.isAbsent
    rw [Peer.station_setStation_other p _ (by rintro rfl; exact hn hbound)]
    exact hpresent

theorem Act.keeps_bindingLaw {s t : State} (h : Act s t) (hs : s.bindingLaw) : t.bindingLaw := by
  rw [State.bindingLaw_iff] at hs ⊢
  cases h with
  | stationsWake hnone => exact fun k hk => absurd hk (by simpa using hnone k)
  | signals t hfrom =>
    intro k hk
    obtain ⟨hheld, hbound⟩ | hpresent := hfrom k hk
    · simpa [hbound] using hs k hheld
    · exact hpresent
  | markAbsent n => exact hs.markAbsent n
  | status n v arrival => exact hs.peer fun m => Peer.isAbsent_takeStatus v arrival
  | peer p hp => exact hs.peer fun m hm => (Peer.isAbsent_of_stations hp m).trans hm
  | straps _ => exact hs.peer fun m hm => (Peer.isAbsent_of_stations rfl m).trans hm
  | clearTallies snap => exact hs.peer fun m hm => (Peer.isAbsent_map rfl (by simp) m).trans hm
  | _ => simpa [State.takeDistance, State.storeAndSilence, State.removeChime] using hs

/-- Settles O57: the tallies saturate, a record is ABSENT with nothing of its last synchronisation, and an entry is lost with its
station. -/
theorem recordsKept : Obligations.RecordsKept := by
  unfold Obligations.RecordsKept
  refine ⟨fun s t hs h => ?_, fun s t hs h => ?_, fun s t hs h => ?_⟩
  · refine step_keeps (P := State.tallyLaw) (fun _ _ => Act.keeps_tallyLaw) ?_ ?_ hs h
    · intro s i _ hs
      simpa [State.tallyLaw_iff] using hs
    · intro s pins a ws _
      exact ⟨OwnTallies.bounded_zero, fun r hr => List.eq_of_mem_replicate hr ▸ StationTallies.bounded_zero⟩
  · refine step_keeps (P := State.bindingLaw) (fun _ _ => Act.keeps_bindingLaw) ?_ ?_ hs h
    · intro s i _ hs
      simpa [State.bindingLaw_iff] using hs
    · intro s pins a ws _ k hk
      have hnone : (State.reset.sig.hdr k).fresh.held = false := by cases k <;> rfl
      exact absurd (hnone.symm.trans hk) (by decide)
  · refine step_keeps (P := State.stationLaw) (fun _ _ => Act.keeps_stationLaw) ?_ ?_ hs h
    · intro s i _ hs
      simpa [State.stationLaw] using hs
    · intro s pins a ws _
      exact fun r hr => List.eq_of_mem_replicate hr ▸ Station.inRange_goAbsent Station.reset

end Sys2Proof.Machine
end

section
/-! PROOFS. The gauges, the trip fields, the filter, the clock and the counters keep their ranges, at every step. -/

namespace Sys2Proof.Machine

/-! ## The channels (R60, R64, R74) -/

/-- Every channel of a reading has a divider of one at least (R62, R63). -/
theorem calShares_divider (i : Image) : ∀ c ∈ (calShares i).channels, 1 ≤ c.divider := by
  unfold calShares
  split
  · intro c hc
    obtain ⟨n, -, rfl⟩ := List.mem_map.mp hc
    exact (clampNat_bounds (by decide) _).1
  · intro c hc
    simp only [builtInChannels, List.mem_cons, List.not_mem_nil, or_false] at hc
    obtain rfl | rfl | rfl | rfl | rfl | rfl := hc <;> decide

@[simp] theorem Channel.loaded_cal (cal : ChannelCal) : (Channel.loaded cal).cal = cal := by
  unfold Channel.loaded
  by_cases h : cal.source = .off <;> simp [h, Channel.drive]

theorem Channel.loaded_inRange {cal : ChannelCal} (h : 1 ≤ cal.divider) : (Channel.loaded cal).inRange := by
  unfold Channel.loaded Channel.inRange
  by_cases hoff : cal.source = .off <;> simp [hoff, Channel.drive] <;> omega

theorem Channel.park_inRange {c : Channel} (h : c.inRange) : c.park.inRange := by
  unfold Channel.park
  split <;> exact h

theorem Channel.park_off {c : Channel} (h : c.state = .off ↔ c.cal.source = .off) :
    c.park.state = .off ↔ c.park.cal.source = .off := by
  unfold Channel.park
  split
  · exact h
  · rename_i hsource
    exact iff_of_false (by simp [Channel.release]) hsource

/-- The law of the channels on what it reads. -/
def GaugeLaw (p : Power) (l : List Channel) : Prop :=
  ∀ c ∈ l, c.inRange ∧ (p ≠ .load → (c.state = .off ↔ c.cal.source = .off))

theorem State.gaugeLaw_iff {s : State} : s.gaugeLaw ↔ GaugeLaw s.pw.state s.gauges := Iff.rfl

/-- Outside LOAD the power state is nothing to the law. -/
theorem GaugeLaw.power {p q : Power} {l : List Channel} (h : GaugeLaw p l) (hp : p ≠ .load) : GaugeLaw q l := by
  intro c hc
  obtain ⟨hrange, hoff⟩ := h c hc
  exact ⟨hrange, fun _ => hoff hp⟩

theorem GaugeLaw.starting {s : State} {q : Power} (h : GaugeLaw s.pw.state s.gauges)
    (hstart : s.Starting ∨ s.pw.state = .crank) : GaugeLaw q s.gauges := by
  obtain (hst | ⟨-, hoff⟩) | hcrank := hstart
  · exact h.power (by simp [hst])
  · exact fun c hc => ⟨(h c hc).1, fun _ => hoff c hc⟩
  · exact h.power (by simp [hcrank])

theorem GaugeLaw.moves {p : Power} {k l : List Channel} (h : GaugeLaw p k) (hl : ∀ c ∈ l, ∃ b ∈ k, b.Moves c) :
    GaugeLaw p l := by
  intro c hc
  obtain ⟨b, hb, hmoves⟩ := hl c hc
  obtain ⟨hrange, hoff⟩ := h b hb
  exact ⟨hmoves.inRange hrange, fun hp => hmoves.off (hoff hp)⟩

theorem Act.keeps_gaugeLaw {s t : State} (h : Act s t) (hs : s.gaugeLaw) : t.gaugeLaw := by
  rw [State.gaugeLaw_iff] at hs ⊢
  cases h with
  | power p hp => simpa [hp.state] using hs
  | turn p hfrom _ => exact hs.power (by rintro hl; simp [hl] at hfrom)
  | sound p hfrom _ => exact GaugeLaw.starting (s := s) hs hfrom
  | crank hactive => exact hs.power (by simp [hactive])
  | sleep hstandby =>
    simp only [State.enterSleep_pw, State.enterSleep_gauges]
    intro c hc
    obtain ⟨b, hb, rfl⟩ := List.mem_map.mp hc
    obtain ⟨hrange, hoff⟩ := hs b hb
    exact ⟨Channel.park_inRange hrange, fun _ => Channel.park_off (hoff (by simp [hstandby]))⟩
  | stabilise hsleep => exact hs.power (by simp [hsleep])
  | gauges l _ hl => exact hs.moves hl
  | _ => simpa [State.takeDistance, State.storeAndSilence, State.removeChime] using hs

/-! ## The trip fields (R34, R35, R46, R47) -/

theorem Trip.RecordsInRange.addMetres {t : Trip} {m : Nat} (hm : m ≤ 1023) (h : t.RecordsInRange) :
    (t.addMetres m).RecordsInRange := by
  obtain ⟨ha, hb, hsnapA, hsnapB, hdist, hfuel⟩ := h.add (d := m) (f := 0) (e := 0) (by omega) (by omega) (by omega)
  unfold Trip.addMetres Trip.windowMetres
  dsimp only
  have hwin : (t.add m 0 0).winDist + m ≤ 65022 := by omega
  split
  · exact ⟨ha, hb, hsnapA, hsnapB, by simp only [Trip.halve]; omega, by simp only [Trip.halve]; omega⟩
  · exact ⟨ha, hb, hsnapA, hsnapB, by simp only; omega, hfuel⟩

theorem Trip.RecordsInRange.addMillilitres {t : Trip} {ml : Nat} (hml : ml ≤ 1023) (h : t.RecordsInRange) :
    (t.addMillilitres ml).RecordsInRange := by
  obtain ⟨ha, hb, hsnapA, hsnapB, hdist, hfuel⟩ := h.add (d := 0) (f := ml) (e := 0) (by omega) (by omega) (by omega)
  unfold Trip.addMillilitres Trip.windowMillilitres
  dsimp only
  unfold maxFuel
  split
  · exact ⟨ha, hb, hsnapA, hsnapB, by simp only [Trip.halve]; omega, by simp only [Trip.halve]; omega⟩
  · exact ⟨ha, hb, hsnapA, hsnapB, hdist, by simp only; omega⟩

/-- A delta of at most 1,023 pulses gives at most 1,023 whole units, where a unit takes a thousandth of `k` at least. -/
theorem wholeUnits_le {res d k : Nat} (hk : 1000 ≤ k) (hres : res < k) (hd : d ≤ 1023) : (res + d * 1000) / k ≤ 1023 := by
  refine Nat.le_of_lt_succ ((Nat.div_lt_iff_lt_mul (by omega)).mpr ?_)
  have hprod : 1023 * 1000 ≤ 1023 * k := Nat.mul_le_mul_left 1023 hk
  have hdk : d * 1000 ≤ 1023 * 1000 := Nat.mul_le_mul_right 1000 hd
  omega

/-- The law of the trip fields on what it reads. -/
structure TripLaw (p : Power) (c : Cal) (a : Accum) (t : Trip) : Prop where
  records : t.RecordsInRange
  kDist : 1000 ≤ c.kDist ∧ c.kDist ≤ 16000
  kFuel : 2000 ≤ c.kFuel ∧ c.kFuel ≤ 32000
  distRes : a.distRes < c.kDist
  fuelRes : a.fuelRes < c.kFuel
  load : p = .load → a.distRes = 0 ∧ a.fuelRes = 0

theorem State.tripLaw_iff {s : State} : s.tripLaw ↔ TripLaw s.pw.state s.cal s.acc s.trip := by
  constructor
  · rintro ⟨ha, hb, hsa, hsb, hwd, hwf, ⟨hd1, hd2, hd3⟩, ⟨hf1, hf2, hf3⟩, hload⟩
    exact ⟨⟨ha, hb, hsa, hsb, hwd, hwf⟩, ⟨hd1, hd2⟩, ⟨hf1, hf2⟩, hd3, hf3, hload⟩
  · rintro ⟨⟨ha, hb, hsa, hsb, hwd, hwf⟩, ⟨hd1, hd2⟩, ⟨hf1, hf2⟩, hd3, hf3, hload⟩
    exact ⟨ha, hb, hsa, hsb, hwd, hwf, ⟨hd1, hd2, hd3⟩, ⟨hf1, hf2, hf3⟩, hload⟩

theorem TripLaw.residues {p : Power} {c : Cal} {a b : Accum} {t : Trip} (h : TripLaw p c a t)
    (hd : b.distRes = a.distRes) (hf : b.fuelRes = a.fuelRes) : TripLaw p c b t :=
  ⟨h.records, h.kDist, h.kFuel, hd ▸ h.distRes, hf ▸ h.fuelRes, fun hl => by rw [hd, hf]; exact h.load hl⟩

theorem TripLaw.trip {p : Power} {c : Cal} {a : Accum} {t u : Trip} (h : TripLaw p c a t) (hu : u.RecordsInRange) :
    TripLaw p c a u :=
  ⟨hu, h.kDist, h.kFuel, h.distRes, h.fuelRes, h.load⟩

/-- Into LOAD no change of the power state leads. -/
theorem TripLaw.power {p q : Power} {c : Cal} {a : Accum} {t : Trip} (h : TripLaw p c a t) (hq : q ≠ .load) :
    TripLaw q c a t :=
  ⟨h.records, h.kDist, h.kFuel, h.distRes, h.fuelRes, fun hl => absurd hl hq⟩

theorem TripLaw.takeDistance {p : Power} {c : Cal} {a : Accum} {t : Trip} (h : TripLaw p c a t) (hp : p ≠ .load)
    (count : Word) (d : Nat) : TripLaw p c (a.takeDistance count d c.kDist) t :=
  ⟨h.records, h.kDist, h.kFuel, Nat.mod_lt _ (by have := h.kDist; omega), h.fuelRes, fun hl => absurd hl hp⟩

theorem TripLaw.takeFuel {p : Power} {c : Cal} {a : Accum} {t : Trip} (h : TripLaw p c a t) (hp : p ≠ .load)
    (count : Word) (d : Nat) : TripLaw p c (a.takeFuel count d c.kFuel) t :=
  ⟨h.records, h.kDist, h.kFuel, h.distRes, Nat.mod_lt _ (by have := h.kFuel; omega), fun hl => absurd hl hp⟩

theorem Act.keeps_tripLaw {s t : State} (h : Act s t) (hs : s.tripLaw) : t.tripLaw := by
  rw [State.tripLaw_iff] at hs ⊢
  have hnotLoad {p : Power} (hp : p = .standby ∨ p = .active) : p ≠ .load := by
    rintro rfl
    simp at hp
  cases h with
  | power p hp => simpa [hp.state] using hs
  | turn p _ hto => exact hs.power (hnotLoad hto)
  | sound p _ hto => exact hs.power (hnotLoad hto)
  | crank _ => exact hs.power (by simp)
  | sleep _ =>
    simp only [State.enterSleep_pw, State.enterSleep_frame]
    exact hs.power (by simp [PowerUnit.sleep])
  | stabilise _ => exact hs.power (by simp [PowerUnit.wake])
  | accum a ha _ => exact hs.residues ha.distRes ha.fuelRes
  | odometer a ha => simpa using hs.residues ha.distRes ha.fuelRes
  | pulses count d hp _ => exact hs.takeDistance hp count d
  | metres count d hp hd =>
    exact (hs.takeDistance hp count d).trip (hs.records.addMetres (wholeUnits_le hs.kDist.1 hs.distRes hd))
  | fuelPulses count d hp _ => exact hs.takeFuel hp count d
  | millilitres count d hp hd =>
    have hk : 1000 ≤ s.cal.kFuel := by have := hs.kFuel; omega
    exact (hs.takeFuel hp count d).trip (hs.records.addMillilitres (wholeUnits_le hk hs.fuelRes hd))
  | trip t ht _ => exact hs.trip (ht hs.records)
  | _ => simpa [State.storeAndSilence, State.removeChime] using hs

/-- How often a restored window is halved: until it lies below, and at most `n` times (log 20). -/
theorem Trip.halveWhile_eq (t : Trip) (n : Nat) :
    ∃ k, k ≤ n ∧ t.halveWhile n = { t with winDist := t.winDist / 2 ^ k, winFuel := t.winFuel / 2 ^ k } ∧
      (∀ j, j < k → 64000 ≤ t.winDist / 2 ^ j) ∧ (k < n → t.winDist / 2 ^ k < 64000) := by
  induction n generalizing t with
  | zero => exact ⟨0, Nat.le_refl 0, by simp [Trip.halveWhile], by simp, by simp⟩
  | succ n ih =>
    unfold Trip.halveWhile
    split
    · rename_i hfull
      obtain ⟨k, hk, heq, hbelow, hlast⟩ := ih t.halve
      have hpow (j : Nat) (x : Nat) : x / 2 / 2 ^ j = x / 2 ^ (j + 1) := by
        rw [Nat.div_div_eq_div_mul, Nat.pow_succ, Nat.mul_comm]
      simp only [Trip.halve, hpow] at heq hbelow hlast
      refine ⟨k + 1, by omega, heq, fun j hj => ?_, fun h => hlast (by omega)⟩
      cases j with
      | zero => simpa using hfull
      | succ j => exact hbelow j (by omega)
    · rename_i hroom
      exact ⟨0, Nat.zero_le _, by simp, by simp, fun _ => by simpa using hroom⟩

/-- A saved window of at most 655,350 m lies below 64,000 m after four halvings. -/
theorem Trip.windowOf_eq (t : Trip) {dist : Nat} (fuel : Nat) (h : dist ≤ 655350) :
    ∃ k, k ≤ 4 ∧ dist / 2 ^ k < 64000 ∧ (∀ j, j < k → 64000 ≤ dist / 2 ^ j) ∧
      t.windowOf dist fuel = { t with winDist := dist / 2 ^ k, winFuel := min maxFuel fuel / 2 ^ k } := by
  obtain ⟨k, hk, heq, hbelow, hlast⟩ := ({ t with winDist := dist, winFuel := min maxFuel fuel } : Trip).halveWhile_eq 4
  refine ⟨k, hk, ?_, hbelow, heq⟩
  by_cases hfour : k = 4
  · subst hfour
    omega
  · exact hlast (by omega)

theorem recordOf_inRange (i : Image) (a high fuelBit : Nat) : (recordOf i a high fuelBit).inRange := by
  unfold recordOf TripRecord.inRange maxDist maxFuel maxElapsed
  exact ⟨Nat.min_le_left _ _, Nat.min_le_left _ _, Nat.min_le_left _ _⟩

theorem Image.nat_le (i : Image) (a : Nat) : i.nat a ≤ 65535 := by
  have := (i.word a).isLt
  unfold Image.nat
  omega

theorem State.takeTrip_records (s : State) (i : Image) : (s.takeTrip i).trip.RecordsInRange := by
  unfold State.takeTrip
  split
  · dsimp only
    have hword := i.nat_le 437
    obtain ⟨k, -, hbelow, -, heq⟩ := Trip.windowOf_eq
      { s.trip with
        a := recordOf i 425 (bitField (i.nat 439) 15 12) (bitField (i.nat 440) 3 3)
        b := recordOf i 428 (bitField (i.nat 439) 11 8) (bitField (i.nat 440) 2 2)
        snapA := recordOf i 431 (bitField (i.nat 439) 7 4) (bitField (i.nat 440) 1 1)
        snapB := recordOf i 434 (bitField (i.nat 439) 3 0) (bitField (i.nat 440) 0 0) }
      ((bitField (i.nat 440) 4 4 * 65536 + i.nat 438) * 10) (dist := i.nat 437 * 10) (by omega)
    rw [heq]
    refine ⟨recordOf_inRange .., recordOf_inRange .., recordOf_inRange .., recordOf_inRange .., ?_, ?_⟩
    · exact Nat.le_of_lt_succ hbelow
    · exact (Nat.div_le_self _ _).trans (Nat.min_le_left _ _)
  · exact ⟨TripRecord.inRange_zero, TripRecord.inRange_zero, TripRecord.inRange_zero, TripRecord.inRange_zero,
      Nat.zero_le _, Nat.zero_le _⟩

/-- The constants of a reading lie within the ranges of R178. -/
theorem calShares_constants (i : Image) :
    (1000 ≤ (calShares i).cal.kDist ∧ (calShares i).cal.kDist ≤ 16000) ∧
      (2000 ≤ (calShares i).cal.kFuel ∧ (calShares i).cal.kFuel ≤ 32000) := by
  unfold calShares
  split
  · exact ⟨clampNat_bounds (by decide) _, clampNat_bounds (by decide) _⟩
  · exact ⟨by decide, by decide⟩

theorem State.takeOdometer_residues (s : State) (i : Image) :
    (s.takeOdometer i).acc.distRes = s.acc.distRes ∧ (s.takeOdometer i).acc.fuelRes = s.acc.fuelRes := by
  unfold State.takeOdometer
  split <;> exact ⟨rfl, rfl⟩

theorem State.takeImage_keeps_tripLaw {s : State} (i : Image) (hload : s.pw.state = .load) (hs : s.tripLaw) :
    (s.takeImage i).tripLaw := by
  rw [State.tripLaw_iff] at hs ⊢
  obtain ⟨hdist, hfuel⟩ := calShares_constants i
  obtain ⟨hd, hf⟩ := hs.load hload
  obtain ⟨hd', hf'⟩ := s.takeOdometer_residues i
  rw [State.takeImage_cal, State.takeImage_acc, State.takeImage_trip]
  exact ⟨s.takeTrip_records i, hdist, hfuel, by omega, by omega, fun _ => ⟨hd'.trans hd, hf'.trans hf⟩⟩

theorem TripLaw.reset : TripLaw .load State.reset.cal State.reset.acc State.reset.trip where
  records := ⟨TripRecord.inRange_zero, TripRecord.inRange_zero, TripRecord.inRange_zero, TripRecord.inRange_zero,
    Nat.zero_le _, Nat.zero_le _⟩
  kDist := by decide
  kFuel := by decide
  distRes := by decide
  fuelRes := by decide
  load _ := ⟨rfl, rfl⟩

/-! ## The level filter (R34, R40) -/

theorem State.filterLaw_iff {s : State} : s.filterLaw ↔ s.trip.FilterInRange := Iff.rfl

/-- What feeds the records leaves the filter. -/
theorem Trip.FilterInRange.congr {t u : Trip} (h : t.FilterInRange) (hf : u.f = t.f) (hfast : u.fastFill = t.fastFill) :
    u.FilterInRange := by
  unfold Trip.FilterInRange
  rwa [hf, hfast]

theorem Act.keeps_filterLaw {s t : State} (h : Act s t) (hs : s.filterLaw) : t.filterLaw := by
  rw [State.filterLaw_iff] at hs ⊢
  cases h with
  | metres count d _ _ =>
    obtain ⟨-, -, -, hf, -, hfast⟩ := s.trip.addMetres_spec ((s.acc.distRes + d * 1000) / s.cal.kDist)
    exact hs.congr hf hfast
  | millilitres count d _ _ =>
    obtain ⟨-, -, -, hf, -, hfast⟩ := s.trip.addMillilitres_spec ((s.acc.fuelRes + d * 1000) / s.cal.kFuel)
    exact hs.congr hf hfast
  | trip t _ ht => exact ht hs
  | _ => simpa [State.storeAndSilence, State.removeChime] using hs

theorem Trip.windowOf_filter (t : Trip) (dist fuel : Nat) :
    (t.windowOf dist fuel).f = t.f ∧ (t.windowOf dist fuel).fastFill = t.fastFill := by
  obtain ⟨k, -, heq, -⟩ := ({ t with winDist := dist, winFuel := min maxFuel fuel } : Trip).halveWhile_eq 4
  unfold Trip.windowOf
  rw [heq]
  exact ⟨rfl, rfl⟩

theorem State.takeTrip_filter (s : State) (i : Image) :
    (s.takeTrip i).trip.f = s.trip.f ∧ (s.takeTrip i).trip.fastFill = s.trip.fastFill := by
  unfold State.takeTrip
  split
  · exact Trip.windowOf_filter _ _ _
  · exact ⟨rfl, rfl⟩

/-! ## The clock and the counters (R99, R115, R129) -/

/-- The law of the clock, the flash phase and the engine-hour counter on what it reads. -/
structure ClockLaw (r : Readout) (flash : Nat) (v : Service) : Prop where
  readout : r.InRange
  flash : flash ≤ 9
  service : v.hours ≤ 999999 ∧ v.seconds ≤ 359

theorem State.clockLaw_iff {s : State} : s.clockLaw ↔ ClockLaw s.readout s.warn.flash s.service :=
  ⟨fun ⟨hh, hm, hsec, hd, hr, hf, hs⟩ => ⟨⟨hh, hm, hsec, hd, hr⟩, hf, hs⟩,
    fun ⟨⟨hh, hm, hsec, hd, hr⟩, hf, hs⟩ => ⟨hh, hm, hsec, hd, hr, hf, hs⟩⟩

theorem State.compose_inRange {s : State} (h : s.readout.InRange) : s.compose.readout.InRange := by
  unfold State.compose
  split <;> exact h

theorem State.enterSleep_inRange {s : State} (h : s.readout.InRange) : s.enterSleep.readout.InRange := by
  unfold State.enterSleep
  exact State.compose_inRange (by simpa using h)

theorem State.chimeReport_flash (s : State) (n : Nat) : (s.chimeReport n).warn.flash = s.warn.flash := by
  unfold State.chimeReport
  (repeat' split) <;> rfl

theorem State.chimeReports_flash (s : State) (l : List Nat) :
    (l.foldl State.chimeReport s).warn.flash = s.warn.flash := by
  induction l generalizing s with
  | nil => rfl
  | cons n rest ih => rw [List.foldl_cons, ih, State.chimeReport_flash]

theorem State.raiseWarning_flash (s : State) (n : Nat) (e : Warning) :
    (s.raiseWarning n e).warn.flash = s.warn.flash := by
  unfold State.raiseWarning
  split
  · rfl
  · dsimp only
    split
    · unfold State.offerChime
      rw [State.chimeReports_flash]
      split <;> rfl
    · rfl

theorem Act.keeps_clockLaw {s t : State} (h : Act s t) (hs : s.clockLaw) : t.clockLaw := by
  rw [State.clockLaw_iff] at hs ⊢
  obtain ⟨hread, hflash, hservice⟩ := id hs
  cases h with
  | sleep _ => exact ⟨State.enterSleep_inRange hread, by simpa [WarnUnit.sleep] using hflash, by simpa using hservice⟩
  | readout r hr _ => exact ⟨hr.inRange hread, hflash, hservice⟩
  | compose => exact ⟨State.compose_inRange hread, by simpa using hflash, by simpa using hservice⟩
  | day r hr => exact ⟨hr.inRange hread, hflash, hservice⟩
  | service v hv _ => exact ⟨hread, hflash, hv.inRange hservice⟩
  | hour v hv => exact ⟨hread, hflash, hv.inRange hservice⟩
  | rebase n o d h _ => exact ⟨hread, hflash, hservice⟩
  | odometer a _ => exact ⟨hread, hflash, hservice⟩
  | warn w _ hw => exact ⟨hread, hw hflash, hservice⟩
  | raise n e e' _ _ _ _ =>
    exact ⟨by simpa using hread, by rw [State.raiseWarning_flash]; exact hflash, by simpa using hservice⟩
  | patternEnd w _ _ =>
    exact ⟨by simpa using hread, by rw [State.chimeReport_flash]; exact hflash, by simpa using hservice⟩
  | _ => simpa [State.takeDistance, State.storeAndSilence, State.removeChime, WarnUnit.expireMarks, WarnUnit.setEntry] using hs

theorem ClockLaw.reset : ClockLaw State.reset.readout State.reset.warn.flash State.reset.service where
  readout := by unfold Readout.InRange; decide
  flash := by decide
  service := by decide

theorem State.takeCounters_inRange (s : State) (i : Image) :
    (s.takeCounters i).readout.day ≤ 65535 ∧ (s.takeCounters i).service.hours ≤ 999999 ∧
      (s.takeCounters i).service.seconds ≤ 359 := by
  unfold State.takeCounters
  dsimp only
  split
  · exact ⟨i.nat_le 444, Nat.min_le_left _ _, Nat.zero_le _⟩
  · exact ⟨Nat.zero_le _, Nat.zero_le _, Nat.zero_le _⟩

/-- Settles O58: the channels by their movement, the records by R35 and the window by its halvings, the filter by its steps, and
the counters by their own rules. -/
theorem rangesKept : Obligations.RangesKept := by
  unfold Obligations.RangesKept
  refine ⟨fun s t hs h => ?_, fun s t hs h => ?_, fun s t hs h => ?_, fun s t hs h => ?_⟩
  · refine step_keeps (P := State.gaugeLaw) (fun _ _ => Act.keeps_gaugeLaw) ?_ ?_ hs h
    · intro s i hload _ c hc
      rw [State.takeImage_gauges] at hc
      obtain ⟨cal, hcal, rfl⟩ := List.mem_map.mp hc
      exact ⟨Channel.loaded_inRange (calShares_divider i cal hcal), fun _ => Channel.loaded_off cal⟩
    · intro s pins a ws _ c hc
      obtain rfl : c = Channel.reset := List.eq_of_mem_replicate hc
      exact ⟨⟨Nat.zero_le _, Nat.zero_lt_one⟩, fun hload => absurd rfl hload⟩
  · refine step_keeps (P := State.tripLaw) (fun _ _ => Act.keeps_tripLaw) ?_ ?_ hs h
    · exact fun s i hload hs => State.takeImage_keeps_tripLaw i hload hs
    · intro s pins a ws _
      exact State.tripLaw_iff.mpr TripLaw.reset
  · refine step_keeps (P := State.filterLaw) (fun _ _ => Act.keeps_filterLaw) ?_ ?_ hs h
    · intro s i _ hs
      obtain ⟨hf, hfast⟩ := s.takeTrip_filter i
      rw [State.filterLaw_iff] at hs ⊢
      rw [State.takeImage_trip]
      exact hs.congr hf hfast
    · intro s pins a ws _
      exact ⟨Nat.zero_le _, Nat.zero_le _⟩
  · refine step_keeps (P := State.clockLaw) (fun _ _ => Act.keeps_clockLaw) ?_ ?_ hs h
    · intro s i _ hs
      rw [State.clockLaw_iff] at hs ⊢
      obtain ⟨⟨hh, hm, hsec, -, hr⟩, hflash, -⟩ := hs
      obtain ⟨hday, hhours, hseconds⟩ := s.takeCounters_inRange i
      rw [State.takeImage_readout, State.takeImage_service, State.takeImage_warn]
      exact ⟨⟨hh, hm, hsec, hday, hr⟩, hflash, hhours, hseconds⟩
    · intro s pins a ws _
      exact State.clockLaw_iff.mpr ClockLaw.reset

end Sys2Proof.Machine
end

section
/-! PROOFS. The odometer keeps its range and falls at a reset and at the end of LOAD alone; every service item's state follows its
measures (R25, R27, R120). -/

namespace Sys2Proof.Machine

/-! ## The odometer slots (R27) -/

theorem slotOf_le {i : Image} {n v : Nat} (h : slotOf i n = some v) : v ≤ 9999999 := by
  unfold slotOf at h
  dsimp only at h
  split at h
  · rename_i hslot
    obtain ⟨-, hvalid⟩ := hslot
    obtain rfl := Option.some.inj h
    simp only [slotValid, Bool.and_eq_true, decide_eq_true_eq] at hvalid
    exact hvalid.2
  · cases h

/-- What the search of the slots from `k` on finds: nothing where no slot is valid; otherwise the largest value in the
lowest-numbered slot that holds it. -/
theorem bestSlot_spec (i : Image) (k n : Nat) :
    (bestSlot i k n = none ∧ ∀ j, k ≤ j → j < k + n → slotOf i j = none) ∨
      ∃ m v, bestSlot i k n = some (m, v) ∧ k ≤ m ∧ m < k + n ∧ slotOf i m = some v ∧
        ∀ j w, k ≤ j → j < k + n → slotOf i j = some w → w ≤ v ∧ (w = v → m ≤ j) := by
  induction n generalizing k with
  | zero => exact .inl ⟨rfl, by omega⟩
  | succ n ih =>
    have hsplit {j : Nat} (hj : k ≤ j) : j = k ∨ k + 1 ≤ j := by omega
    unfold bestSlot
    cases hk : slotOf i k with
    | none =>
      obtain ⟨hbest, hnone⟩ | ⟨m, v, hbest, hlo, hhi, hslot, hmax⟩ := ih (k + 1)
      · refine .inl ⟨by simp [hbest], fun j hj hlt => ?_⟩
        obtain rfl | hj := hsplit hj
        · exact hk
        · exact hnone j hj (by omega)
      · refine .inr ⟨m, v, by simp [hbest], by omega, by omega, hslot, fun j w hj hlt hw => ?_⟩
        obtain rfl | hj := hsplit hj
        · simp [hk] at hw
        · exact hmax j w hj (by omega) hw
    | some u =>
      obtain ⟨hbest, hnone⟩ | ⟨m, v, hbest, hlo, hhi, hslot, hmax⟩ := ih (k + 1)
      · refine .inr ⟨k, u, by simp [hbest], Nat.le_refl k, by omega, hk, fun j w hj hlt hw => ?_⟩
        obtain rfl | hj := hsplit hj
        · obtain rfl : u = w := Option.some.inj (hk.symm.trans hw)
          exact ⟨Nat.le_refl _, fun _ => Nat.le_refl _⟩
        · simp [hnone j hj (by omega)] at hw
      · by_cases hle : v ≤ u
        · refine .inr ⟨k, u, by simp [hbest, hle], Nat.le_refl k, by omega, hk, fun j w hj hlt hw => ?_⟩
          obtain rfl | hj' := hsplit hj
          · obtain rfl : u = w := Option.some.inj (hk.symm.trans hw)
            exact ⟨Nat.le_refl _, fun _ => Nat.le_refl _⟩
          · exact ⟨(hmax j w hj' (by omega) hw).1.trans hle, fun _ => hj⟩
        · refine .inr ⟨m, v, by simp [hbest, hle], by omega, by omega, hslot, fun j w hj hlt hw => ?_⟩
          obtain rfl | hj' := hsplit hj
          · obtain rfl : u = w := Option.some.inj (hk.symm.trans hw)
            exact ⟨by omega, by omega⟩
          · exact hmax j w hj' (by omega) hw

/-! ## The odometer -/

/-- The odometer and the metre count within their ranges, the odometer not below a value. -/
structure Accum.InRange (least : Nat) (a : Accum) : Prop where
  least : least ≤ a.odo
  odo : a.odo ≤ 9999999
  metres : a.metres < 100

theorem State.odometerLaw_iff {s : State} : s.odometerLaw ↔ s.acc.InRange 0 :=
  ⟨fun ⟨hodo, hmetres⟩ => ⟨Nat.zero_le _, hodo, hmetres⟩, fun ⟨_, hodo, hmetres⟩ => ⟨hodo, hmetres⟩⟩

theorem Accum.InRange.grows {k : Nat} {a b : Accum} (h : a.InRange k) (hb : a.Grows b) : b.InRange k := by
  obtain ⟨hge, hle⟩ := hb.odo h.odo
  exact ⟨h.least.trans hge, hle, hb.metres h.metres⟩

/-- No elementary change lets the odometer fall. -/
theorem Act.keeps_odometer {k : Nat} {s t : State} (h : Act s t) (hs : s.acc.InRange k) : t.acc.InRange k := by
  cases h with
  | accum a ha _ => exact hs.grows ha
  | odometer a ha => simpa using hs.grows ha
  | pulses count d _ _ => exact ⟨hs.least, hs.odo, hs.metres⟩
  | metres count d _ _ => exact ⟨hs.least, hs.odo, hs.metres⟩
  | fuelPulses count d _ _ => exact ⟨hs.least, hs.odo, hs.metres⟩
  | millilitres count d _ _ => exact ⟨hs.least, hs.odo, hs.metres⟩
  | _ => simpa [State.storeAndSilence, State.removeChime] using hs

theorem State.takeOdometer_inRange (s : State) (i : Image) : (s.takeOdometer i).acc.InRange 0 := by
  unfold State.takeOdometer
  obtain ⟨hbest, -⟩ | ⟨m, v, hbest, -, -, hslot, -⟩ := bestSlot_spec i 0 8
  · rw [hbest]
    exact ⟨Nat.zero_le _, Nat.zero_le _, Nat.zero_lt_succ _⟩
  · rw [hbest]
    exact ⟨Nat.zero_le _, slotOf_le hslot, Nat.zero_lt_succ _⟩

/-- The odometer keeps its range, and falls at the end of LOAD or a reset alone. -/
theorem State.odometer_step {s t : State} (hs : s.odometerLaw) (h : step s = .next t) :
    t.odometerLaw ∧ (t.acc.odo < s.acc.odo →
      ∃ c rest, s.pending = c :: rest ∧ (isReset c = true ∨ isLoadEnd c = true)) := by
  rw [State.odometerLaw_iff] at hs ⊢
  have hkeep {k : Nat} {u v : State} (hrun : Acts u v) (hu : u.acc.InRange k) : v.acc.InRange k :=
    hrun.keep (P := fun s => s.acc.InRange k) (fun _ _ => Act.keeps_odometer) hu
  obtain ⟨hrun, -⟩ | ⟨c, rest, hq, hload, u, i, -, -, -, hrun, -⟩ | ⟨c, rest, hq, hreset, pins, a, ws, rfl⟩ := step_cases h
  · have hleast := hkeep hrun (k := s.acc.odo) ⟨Nat.le_refl _, hs.odo, hs.metres⟩
    exact ⟨⟨Nat.zero_le _, hleast.odo, hleast.metres⟩, fun hfall => absurd hleast.least (Nat.not_le.mpr hfall)⟩
  · refine ⟨hkeep hrun ?_, fun _ => ⟨c, rest, hq, .inr hload⟩⟩
    rw [State.takeImage_acc]
    exact u.takeOdometer_inRange i
  · exact ⟨⟨Nat.zero_le _, Nat.zero_le _, Nat.zero_lt_succ _⟩, fun _ => ⟨c, rest, hq, .inl hreset⟩⟩

/-! ## The service items (R120, R121) -/

/-- An item as its measures have it (R120). -/
def ServiceItem.Judged (x : ServiceItem) (odo day hours : Nat) : Prop :=
  x.odoBase ≤ odo ∧ x.state = itemState x odo day hours

/-- The law of the items on what it reads. -/
def ServiceLaw (items : List ServiceItem) (odo day hours : Nat) : Prop := ∀ x ∈ items, x.Judged odo day hours

theorem State.serviceLaw_iff {s : State} :
    s.serviceLaw ↔ ServiceLaw s.service.items s.acc.odo s.readout.day s.service.hours := Iff.rfl

/-- The state of an item reads whole kilometres and whole hours (R119). -/
theorem itemState_congr (x : ServiceItem) {odo odo' hours hours' : Nat} (day : Nat) (hodo : odo' / 10 = odo / 10)
    (hhours : hours' / 10 = hours / 10) : itemState x odo' day hours' = itemState x odo day hours := by
  unfold itemState kmUsed hoursUsed
  rw [hodo, hhours]

theorem ServiceLaw.congr {items : List ServiceItem} {odo odo' day hours hours' : Nat} (h : ServiceLaw items odo day hours)
    (hge : odo ≤ odo') (hodo : odo' / 10 = odo / 10) (hhours : hours' / 10 = hours / 10) :
    ServiceLaw items odo' day hours' := by
  intro x hx
  obtain ⟨hbase, hstate⟩ := h x hx
  exact ⟨hbase.trans hge, hstate.trans (itemState_congr x day hodo hhours).symm⟩

theorem itemState_evaluate (x : ServiceItem) (odo day hours odo' day' hours' : Nat) :
    itemState (x.evaluate odo' day' hours') odo day hours = itemState x odo day hours := rfl

/-- After an evaluation every item is as its measures have it. -/
theorem ServiceLaw.evaluate {items : List ServiceItem} {odo : Nat} (day hours : Nat)
    (h : ∀ x ∈ items, x.odoBase ≤ odo) : ServiceLaw (items.map (fun x => x.evaluate odo day hours)) odo day hours := by
  intro x hx
  obtain ⟨y, hy, rfl⟩ := List.mem_map.mp hx
  exact ⟨h y hy, rfl⟩

theorem ServiceLaw.bases {items : List ServiceItem} {odo odo' day hours : Nat} (h : ServiceLaw items odo day hours)
    (hge : odo ≤ odo') : ∀ x ∈ items, x.odoBase ≤ odo' := fun x hx => (h x hx).1.trans hge

theorem ServiceLaw.rebase {items : List ServiceItem} {odo day hours : Nat} (h : ServiceLaw items odo day hours) {o : Nat}
    (ho : o ≤ odo) (n d hb : Nat) :
    ServiceLaw (updateAt items n (fun x =>
      ({ x with odoBase := o, dayBase := d, hoursBase := hb }).evaluate odo day hours)) odo day hours := by
  intro x hx
  obtain hx | ⟨y, -, rfl⟩ := mem_updateAt hx
  · exact h x hx
  · exact ⟨ho, rfl⟩

theorem State.compose_day (s : State) : s.compose.readout.day = s.readout.day := by
  unfold State.compose
  split <;> rfl

/-- The odometer and the items under their laws. -/
def State.measuredLaw (s : State) : Prop :=
  s.acc.InRange 0 ∧ ServiceLaw s.service.items s.acc.odo s.readout.day s.service.hours

theorem Act.keeps_serviceLaw {s t : State} (h : Act s t) (hodo : s.acc.InRange 0) (hs : s.serviceLaw) :
    t.serviceLaw := by
  rw [State.serviceLaw_iff] at hs ⊢
  cases h with
  | sleep _ =>
    have hday : s.enterSleep.readout.day = s.readout.day := by
      unfold State.enterSleep
      rw [State.compose_day]
      rfl
    simpa [hday] using hs
  | compose => simpa [State.compose_day] using hs
  | accum a ha hkm => exact hs.congr (ha.odo hodo.odo).1 hkm rfl
  | odometer a ha => exact .evaluate _ _ (hs.bases (ha.odo hodo.odo).1)
  | readout r _ hday => simpa [hday] using hs
  | day r _ => exact .evaluate _ _ (hs.bases (Nat.le_refl _))
  | service v hv hwhole => simpa [hv.items] using hs.congr (Nat.le_refl _) rfl hwhole
  | hour v hv => exact .evaluate _ _ (by simpa [hv.items] using hs.bases (Nat.le_refl _))
  | rebase n o d h ho => exact hs.rebase ho n d h
  | _ => simpa [State.takeDistance, State.storeAndSilence, State.removeChime, Accum.takeDistance, Accum.takeFuel] using hs

theorem restoreItems_base (i : Image) (odo : Nat) (items : List ServiceItem) (n : Nat) :
    ∀ x ∈ restoreItems i odo items n, x.odoBase ≤ odo := by
  induction items generalizing n with
  | nil => simp [restoreItems]
  | cons y rest ih =>
    intro x hx
    obtain rfl | hx := List.mem_cons.mp hx
    · exact Nat.min_le_left _ _
    · exact ih (n + 1) x hx

/-- No baseline of a reading exceeds the odometer (R128). -/
theorem State.baselined_base (s : State) (i : Image) : ∀ x ∈ s.baselined i, x.odoBase ≤ s.acc.odo := by
  unfold State.baselined
  split
  · exact restoreItems_base i _ _ 0
  · intro x hx
    obtain ⟨y, -, rfl⟩ := List.mem_map.mp hx
    exact Nat.le_refl _

theorem State.takeImage_serviceLaw (s : State) (i : Image) : (s.takeImage i).serviceLaw := by
  rw [State.serviceLaw_iff, State.takeImage_service, State.takeImage_acc, State.takeImage_readout]
  refine .evaluate _ _ fun x hx => ?_
  have hbase := State.baselined_base _ i x hx
  rw [← State.takeImage_acc]
  simpa [State.takeImage] using hbase

/-- Settles O59: an elementary change raises the odometer or leaves it; an item is evaluated wherever a whole kilometre, a day or a
whole hour is new. -/
theorem odometerKept : Obligations.OdometerKept := by
  unfold Obligations.OdometerKept
  refine ⟨fun s t hs h => ?_, fun s t hodo hs h => ?_⟩
  · obtain ⟨hlaw, hfall⟩ := State.odometer_step hs h
    refine ⟨hlaw, fun hlt => ?_⟩
    obtain ⟨c, rest, hq, hreset | hload⟩ := hfall hlt
    · obtain hc | hc | hc := isReset_cases hreset
      · exact ⟨c, rest, hq, .inl hc⟩
      · exact ⟨c, rest, hq, .inr (.inr (.inl hc))⟩
      · exact ⟨c, rest, hq, .inr (.inr (.inr hc))⟩
    · exact ⟨c, rest, hq, .inr (.inl (isLoadEnd_cases hload))⟩
  · refine (step_keeps (P := State.measuredLaw) ?_ ?_ ?_ ⟨State.odometerLaw_iff.mp hodo, hs⟩ h).2
    · rintro s t hact ⟨hodo, hs⟩
      exact ⟨hact.keeps_odometer hodo, hact.keeps_serviceLaw hodo hs⟩
    · intro s i _ _
      refine ⟨?_, s.takeImage_serviceLaw i⟩
      rw [State.takeImage_acc]
      exact s.takeOdometer_inRange i
    · intro s pins a ws _
      refine ⟨⟨Nat.zero_le _, Nat.zero_le _, Nat.zero_lt_succ _⟩, fun x hx => ?_⟩
      obtain rfl : x = ServiceItem.reset := List.eq_of_mem_replicate hx
      exact ⟨Nat.zero_le _, rfl⟩

end Sys2Proof.Machine
end

section
/-! PROOFS. The keep-alive timer, the return stage and the lamps follow their reasons at every step, and what SLEEP leaves stays
as long as SLEEP lasts (R98, R172, R173). -/

namespace Sys2Proof.Machine

/-! ## The lamps (R98) -/

theorem lampStateOf_congr {w v : WarnUnit} (htable : v.table = w.table) (htest : v.lampTest = w.lampTest) :
    lampStateOf v = lampStateOf w := by
  funext lamp
  unfold lampStateOf
  rw [htable, htest]

theorem State.finish_warn (s : State) : s.finish.warn = s.warn.refreshLamps := by
  rw [finish_eq]
  rfl

theorem State.finish_lampLaw (s : State) : s.finish.lampLaw := by
  unfold State.lampLaw
  rw [State.finish_warn, lampStateOf_congr (w := s.warn) (v := s.warn.refreshLamps) rfl rfl]
  rfl

theorem State.lampLaw_of_warn {s t : State} (h : t.warn = s.warn) (hs : s.lampLaw) : t.lampLaw := by
  unfold State.lampLaw
  rwa [h]

/-! ## The keep-alive timer and the return stage (R172, R173) -/

/-- The law of the keep-alive timer on what it reads: the power state, the timer, the return stage, whether a reason other than
a write is present, and whether a write waits. -/
structure KeepAliveLaw (p : PowerUnit) (reason writes : Bool) : Prop where
  outside : p.state ≠ .standby → p.keepAlive = none ∧ p.returning = false
  awake : reason = true → p.keepAlive = none ∧ p.returning = false
  stage : p.returning = true → p.keepAlive = none
  timer : p.state = .standby → p.returning = false → (p.keepAlive.isSome = true ↔ (reason || writes) = false)

theorem State.keepAliveLaw_iff {s : State} : s.keepAliveLaw ↔ KeepAliveLaw s.pw (awakeReason s) (!writesDone s) := by
  have htimer (h : s.pw.returning = false) : keepAwake s = (awakeReason s || !writesDone s) := by
    simp [keepAwake, h]
  constructor
  · rintro ⟨hstandby, hreason, hreturning, htime⟩
    exact ⟨hstandby, hreason, hreturning, fun hs hr => htimer hr ▸ htime hs hr⟩
  · rintro ⟨hstandby, hreason, hreturning, htime⟩
    exact ⟨hstandby, hreason, hreturning, fun hs hr => (htimer hr).symm ▸ htime hs hr⟩

theorem PowerUnit.settle_law (p : PowerUnit) (reason writes : Bool) :
    KeepAliveLaw (p.settle (reason || (!p.returning && writes))) reason writes := by
  unfold PowerUnit.settle
  split
  · rename_i hstate
    exact ⟨fun _ => ⟨rfl, rfl⟩, fun _ => ⟨rfl, rfl⟩, fun _ => rfl, fun h => absurd h hstate⟩
  · rename_i hstate
    have hstandby : p.state = .standby := by simpa using hstate
    cases reason with
    | true => constructor <;> simp
    | false =>
      cases hreturning : p.returning with
      | true => constructor <;> simp [hstandby]
      | false =>
        cases writes with
        | true => constructor <;> simp
        | false => cases hkeep : p.keepAlive <;> constructor <;> simp [hstandby, hreturning, hkeep]

theorem PowerUnit.settle_writes (p : PowerUnit) (awake : Bool) :
    (p.settle awake).queue = p.queue ∧ (p.settle awake).writing = p.writing := by
  unfold PowerUnit.settle
  (repeat' split) <;> exact ⟨rfl, rfl⟩

theorem awakeReason_congr {s t : State} (hsig : t.sig = s.sig) (htable : t.warn.table = s.warn.table) :
    awakeReason t = awakeReason s := by
  unfold awakeReason
  rw [hsig, htable]

theorem writesDone_congr {s t : State} (hqueue : t.pw.queue = s.pw.queue) (hwriting : t.pw.writing = s.pw.writing) :
    writesDone t = writesDone s := by
  unfold writesDone
  rw [hqueue, hwriting]

/-- What follows every command at once brings the law about. -/
theorem State.finish_keepAliveLaw (s : State) : s.finish.keepAliveLaw := by
  have hpw : s.finish.pw = s.pw.settle (awakeReason s || (!s.pw.returning && !writesDone s)) := rfl
  obtain ⟨hqueue, hwriting⟩ := s.pw.settle_writes (awakeReason s || (!s.pw.returning && !writesDone s))
  rw [State.keepAliveLaw_iff, awakeReason_congr (s := s) (t := s.finish) rfl rfl,
    writesDone_congr (s := s) (t := s.finish) (by rw [hpw, hqueue]) (by rw [hpw, hwriting]), hpw]
  exact s.pw.settle_law (awakeReason s) (!writesDone s)

/-- An idle step lets time pass at most. -/
theorem idle_settled (s : State) : (idle s).warn = s.warn ∧ (idle s).sig = s.sig ∧ ∃ n, (idle s).pw = { s.pw with time := n } := by
  unfold idle
  dsimp only
  split
  · exact ⟨rfl, rfl, _, rfl⟩
  · split
    · exact ⟨rfl, rfl, _, rfl⟩
    · exact ⟨rfl, rfl, _, rfl⟩

theorem State.keepAliveLaw_ofTime {s t : State} (hs : s.keepAliveLaw) (hwarn : t.warn = s.warn) (hsig : t.sig = s.sig)
    (hpw : ∃ n, t.pw = { s.pw with time := n }) : t.keepAliveLaw := by
  obtain ⟨n, hpw⟩ := hpw
  rw [State.keepAliveLaw_iff] at hs ⊢
  rw [awakeReason_congr hsig (by rw [hwarn]), writesDone_congr (s := s) (by rw [hpw]) (by rw [hpw]), hpw]
  exact ⟨hs.outside, hs.awake, hs.stage, hs.timer⟩

/-- A law that an idle step keeps, that what follows every command at once brings about, and that holds after a reset. -/
theorem step_settles {P : State → Prop}
    (hidle : ∀ s t, t.warn = s.warn → t.sig = s.sig → (∃ n, t.pw = { s.pw with time := n }) → P s → P t)
    (hfinish : ∀ s : State, P s.finish)
    (hreset : ∀ s pins a ws, P s → P (s.resetPart pins (memWriteAll s.mem a ws))) {s t : State} (hs : P s)
    (h : step s = .next t) : P t := by
  obtain ⟨-, rfl | ⟨l, rfl⟩ | ⟨u, rfl⟩⟩ | ⟨-, -, -, -, -, -, v, -, -, -, rfl⟩ | ⟨-, rest, -, -, pins, a, ws, rfl⟩ :=
    step_cases h
  · obtain ⟨hwarn, hsig, hpw⟩ := idle_settled s
    exact hidle _ _ hwarn hsig hpw hs
  · exact hidle s _ rfl rfl ⟨s.pw.time, rfl⟩ hs
  · exact hfinish u
  · exact hfinish v
  · exact hreset (s.setPending rest) pins a ws (hidle s _ rfl rfl ⟨s.pw.time, rfl⟩ hs)

/-! ## What SLEEP leaves (R173) -/

/-- What SLEEP leaves, on what it reads. -/
structure Asleep (ticks : List (Option Nat)) (l : Line) (g : List Channel) (w : WarnUnit) (q : List ChimeEntry)
    (r : Readout) : Prop where
  inbound : l.inbound = []
  holding : l.holding = false
  pause : l.pause = none
  stopped : ticks = [none, none, none]
  channels : ∀ c ∈ g, c.cal.source ≠ .off → c.state = .parked
  warnings : ∀ n e, w.entry n = some e → e.state = .quiet
  chimes : q = []
  message : r.message = List.replicate 10 ' '
  brightness : r.brightness = .dark

/-- The law of SLEEP on what it reads; `ticks` are the next 20, 100 and 200 ms ticks. -/
def SleepLaw (p : Power) (ticks : List (Option Nat)) (l : Line) (g : List Channel) (w : WarnUnit) (q : List ChimeEntry)
    (r : Readout) : Prop := p = .sleep → Asleep ticks l g w q r

theorem State.sleepLaw_iff {s : State} :
    s.sleepLaw ↔ SleepLaw s.pw.state [s.pw.nextGauge, s.pw.nextTrip, s.pw.nextHeart] s.line s.gauges s.warn
      s.chime.queue s.readout := by
  constructor
  · intro h hsleep
    obtain ⟨hinbound, hholding, hpause, hgauge, htrip, hheart, hrest⟩ := h hsleep
    obtain ⟨hchannels, hwarnings, hchimes, hmessage, hbrightness⟩ := hrest
    exact ⟨hinbound, hholding, hpause, by rw [hgauge, htrip, hheart], hchannels, hwarnings, hchimes, hmessage,
      hbrightness⟩
  · intro h hsleep
    obtain ⟨hinbound, hholding, hpause, hstopped, hchannels, hwarnings, hchimes, hmessage, hbrightness⟩ := h hsleep
    obtain ⟨hgauge, htrip, hheart⟩ : s.pw.nextGauge = none ∧ s.pw.nextTrip = none ∧ s.pw.nextHeart = none := by
      simpa using hstopped
    exact ⟨hinbound, hholding, hpause, hgauge, htrip, hheart, hchannels, hwarnings, hchimes, hmessage, hbrightness⟩

section
variable {p : Power} {ticks : List (Option Nat)} {l m : Line} {g : List Channel} {w v : WarnUnit} {c : List ChimeEntry}
  {r x : Readout}

theorem SleepLaw.awake (h : p ≠ .sleep) : SleepLaw p ticks l g w c r := fun hsleep => absurd hsleep h

theorem SleepLaw.stopped (h : SleepLaw p ticks l g w c r) {ticks' : List (Option Nat)}
    (hticks : ticks = [none, none, none] → ticks' = [none, none, none]) : SleepLaw p ticks' l g w c r := by
  intro hsleep
  have ha := h hsleep
  exact { ha with stopped := hticks ha.stopped }

theorem SleepLaw.line (h : SleepLaw p ticks l g w c r) (hinbound : m.inbound = l.inbound)
    (hholding : l.holding = false → m.holding = false) (hpause : l.pause = none → m.pause = none) :
    SleepLaw p ticks m g w c r := by
  intro hsleep
  have ha := h hsleep
  exact { ha with inbound := hinbound.trans ha.inbound, holding := hholding ha.holding, pause := hpause ha.pause }

theorem SleepLaw.warn (h : SleepLaw p ticks l g w c r)
    (hentry : ∀ n e, (∀ n e, w.entry n = some e → e.state = .quiet) → v.entry n = some e → e.state = .quiet) :
    SleepLaw p ticks l g v c r := by
  intro hsleep
  have ha := h hsleep
  exact { ha with warnings := fun n e he => hentry n e ha.warnings he }

theorem SleepLaw.readout (h : SleepLaw p ticks l g w c r) (hx : r.SameShown x) : SleepLaw p ticks l g w c x := by
  intro hsleep
  have ha := h hsleep
  exact { ha with message := hx.message.trans ha.message, brightness := hx.brightness.trans ha.brightness }

theorem SleepLaw.chime (h : SleepLaw p ticks l g w c r) {d : List ChimeEntry} (hd : c = [] → d = []) : SleepLaw p ticks l g w d r := by
  intro hsleep
  have ha := h hsleep
  exact { ha with chimes := hd ha.chimes }

end

theorem Channel.park_parked {c : Channel} (h : c.park.cal.source ≠ .off) : c.park.state = .parked := by
  unfold Channel.park at h ⊢
  split at h
  · contradiction
  · rename_i hsource
    rw [if_neg hsource]
    rfl

theorem State.enterSleep_readout (s : State) :
    s.enterSleep.readout.message = List.replicate 10 ' ' ∧ s.enterSleep.readout.brightness = .dark := ⟨rfl, rfl⟩

theorem State.enterSleep_asleep (s : State) : s.enterSleep.sleepLaw := by
  obtain ⟨hmessage, hbrightness⟩ := s.enterSleep_readout
  rw [State.sleepLaw_iff]
  intro _
  simp only [State.enterSleep_pw, State.enterSleep_line, State.enterSleep_gauges, State.enterSleep_warn,
    State.enterSleep_chime]
  refine ⟨rfl, rfl, rfl, rfl, ?_, ?_, rfl, hmessage, hbrightness⟩
  · intro c hc hsource
    obtain ⟨b, -, rfl⟩ := List.mem_map.mp hc
    exact Channel.park_parked hsource
  · intro n e he
    rw [WarnUnit.entry_map (w := s.warn) (f := fun x => Warning.cleared x.cfg) rfl] at he
    obtain ⟨x, -, rfl⟩ := Option.map_eq_some_iff.mp he
    rfl

theorem State.chimeReport_quiet {s : State} (h : ∀ n e, s.warn.entry n = some e → e.state = .quiet) (w : Nat) :
    ∀ n e, (s.chimeReport w).warn.entry n = some e → e.state = .quiet := by
  intro n e he
  unfold State.chimeReport at he
  split at he
  · rename_i x hx
    split at he
    · rename_i hactive
      simp [h w x hx] at hactive
    · exact h n e he
  · exact h n e he

theorem State.compose_asleep {s : State} {ticks : List (Option Nat)}
    (h : SleepLaw s.pw.state ticks s.line s.gauges s.warn s.chime.queue s.readout) :
    SleepLaw s.pw.state ticks s.line s.gauges s.warn s.chime.queue s.compose.readout := by
  intro hsleep
  have hread : s.compose.readout.message = List.replicate 10 ' ' ∧ s.compose.readout.brightness = .dark := by
    unfold State.compose
    rw [hsleep]
    exact ⟨rfl, rfl⟩
  exact { h hsleep with message := hread.1, brightness := hread.2 }

theorem Act.keeps_sleepLaw {s t : State} (h : Act s t) (hs : s.sleepLaw) : t.sleepLaw := by
  have hnotSleep {p : Power} (hp : p = .standby ∨ p = .active) : p ≠ .sleep := by
    rintro rfl
    simp at hp
  rw [State.sleepLaw_iff] at hs ⊢
  cases h with
  | sleep _ => exact State.sleepLaw_iff.mp s.enterSleep_asleep
  | power p hp =>
    simp only [State.setPw_pw, hp.state]
    refine hs.stopped fun h => ?_
    obtain ⟨hgauge, htrip, hheart⟩ : s.pw.nextGauge = none ∧ s.pw.nextTrip = none ∧ s.pw.nextHeart = none := by
      simpa using h
    rw [hp.gauge hgauge, hp.trip htrip, hp.heart hheart]
  | turn p _ hto => exact .awake (hnotSleep hto)
  | sound p _ hto => exact .awake (hnotSleep hto)
  | crank _ => exact .awake (by simp)
  | stabilise _ => exact .awake (by simp [PowerUnit.wake])
  | line l hawake _ _ => exact .awake hawake
  | store l f hawake _ _ _ => exact .awake hawake
  | pauseOver => exact hs.line rfl id fun _ => rfl
  | tx q _ => exact hs.line rfl id id
  | take f rest hq => exact fun hsleep => absurd hq (by simp [(hs hsleep).inbound])
  | gauges l hawake _ => exact .awake hawake
  | readout r hr _ => exact hs.readout hr
  | compose => simpa using State.compose_asleep hs
  | day r hr => exact hs.readout hr
  | warn w htable _ => exact hs.warn fun n e hq he => hq n e ((WarnUnit.entry_of_table htable n).symm.trans he)
  | marks now =>
    refine hs.warn fun n e hq he => ?_
    rw [State.setWarn_warn, WarnUnit.entry_map (w := s.warn) (f := fun x => x.expireMark now) rfl] at he
    obtain ⟨x, hx, rfl⟩ := Option.map_eq_some_iff.mp he
    exact (x.expireMark_cfg_state now).2.trans (hq n x hx)
  | entry n e e' he _ _ hstate =>
    intro hsleep
    refine hs.warn (fun m x hq hx => ?_) hsleep
    by_cases hm : m = n
    · subst hm
      rw [State.setWarn_warn, WarnUnit.entry_setEntry_same e' he] at hx
      obtain rfl := Option.some.inj hx
      exact (hstate hsleep).trans (hq m e he)
    · rw [State.setWarn_warn, WarnUnit.entry_setEntry_other e' hm] at hx
      exact hq m x hx
  | silence n e e' _ _ hawake => exact .awake hawake
  | raise n e e' _ _ _ hpower => exact .awake (by simpa using hnotSleep hpower)
  | patternEnd w _ _ =>
    refine SleepLaw.warn (w := s.warn) ?_ fun n e hq he => ?_
    · simpa using hs.chime fun hq => by simp [chimeWithout, hq]
    · exact State.chimeReport_quiet (by simpa using hq) w n e he
  | click refusal =>
    have hq : (s.chime.askClick s.pw.time refusal).queue = s.chime.queue := by
      unfold Chimes.askClick
      split <;> rfl
    simpa [hq] using hs
  | _ => simpa [State.takeDistance, Chimes.endClick] using hs

theorem State.reset_keepAliveLaw : State.reset.keepAliveLaw :=
  ⟨fun _ => ⟨rfl, rfl⟩, fun _ => ⟨rfl, rfl⟩, fun _ => rfl, fun h => nomatch h⟩

theorem State.reset_lampLaw : State.reset.lampLaw := by
  unfold State.lampLaw
  decide

/-- Settles O60: the timer, the return stage and the lamps are taken anew after every command; what SLEEP leaves is touched by the
wake alone. -/
theorem keepAliveKept : Obligations.KeepAliveKept := by
  unfold Obligations.KeepAliveKept
  refine ⟨fun s t hs h => ?_, fun s t hs h => ?_, fun s t hs h => ?_⟩
  · refine step_settles (P := State.keepAliveLaw) ?_ State.finish_keepAliveLaw ?_ hs h
    · exact fun s t hwarn hsig hpw hs => State.keepAliveLaw_ofTime hs hwarn hsig hpw
    · intro s pins a ws _
      exact State.reset_keepAliveLaw
  · refine step_keeps (P := State.sleepLaw) (fun _ _ => Act.keeps_sleepLaw) ?_ ?_ hs h
    · intro s i hload _ hsleep
      exact absurd ((s.takeImage_duty i).1.symm.trans hsleep) (by simp [hload])
    · intro s pins a ws _ hsleep
      exact absurd hsleep (by simp [State.reset])
  · refine step_settles (P := State.lampLaw) ?_ State.finish_lampLaw ?_ hs h
    · exact fun s t hwarn _ _ hs => State.lampLaw_of_warn hwarn hs
    · intro s pins a ws _
      exact State.reset_lampLaw

end Sys2Proof.Machine
end

section
/-! PROOFS. The step, the reset values, the laws at reset, and the three resets (R175). -/

namespace Sys2Proof.Machine

/-- Settles O1: by the definition of a step. -/
theorem stepRunsFrontCommand : Obligations.StepRunsFrontCommand := by
  unfold Obligations.StepRunsFrontCommand
  intro s c rest h
  unfold step
  rw [h]
  rfl

/-! ## The reset values -/

/-- Every station number has the reset record. -/
theorem reset_station (n : StationNo) : State.reset.peer.station n = Station.reset := by
  show (List.replicate 16 Station.reset).getD n.toNat Station.reset = Station.reset
  rw [List.getD_eq_getElem?_getD, List.getElem?_replicate]
  split <;> rfl

theorem reset_hdr (k : SignalKind) :
    State.reset.sig.hdr k = { fresh := .none, bound := none, arrival := 0, rebound := false } := by
  cases k <;> rfl

theorem reset_channel {c : Channel} (h : c ∈ State.reset.gauges) : c = Channel.reset := List.eq_of_mem_replicate h

theorem reset_item {x : ServiceItem} (h : x ∈ State.reset.service.items) : x = ServiceItem.reset :=
  List.eq_of_mem_replicate h

/-- Settles O3: the reset state written out, with its lists of equal records. -/
theorem resetValues : Obligations.ResetValues := by
  unfold Obligations.ResetValues
  refine ⟨by decide, by decide, ⟨reset_hdr, by decide⟩, ⟨by decide, reset_station, by decide⟩, by decide, by decide,
    ⟨by decide, fun c hc => ?_⟩, by decide, by decide, ⟨by decide, by decide, by decide, fun x hx => ?_⟩, by decide,
    by decide⟩
  · rw [reset_channel hc]
    decide
  · rw [reset_item hx]
    decide

/-! ## The laws at reset -/

theorem reset_gaugeLaw : State.reset.gaugeLaw := by
  intro c hc
  rw [reset_channel hc]
  exact ⟨⟨Nat.zero_le _, Nat.zero_lt_one⟩, fun hload => absurd rfl hload⟩

theorem reset_serviceLaw : State.reset.serviceLaw := by
  intro x hx
  rw [reset_item hx]
  exact ⟨Nat.zero_le _, rfl⟩

theorem reset_bindingLaw : State.reset.bindingLaw := by
  intro k hk
  rw [reset_hdr k] at hk
  exact absurd hk (by decide)

theorem reset_tallyLaw : State.reset.tallyLaw :=
  ⟨OwnTallies.bounded_zero, fun _ hr => List.eq_of_mem_replicate hr ▸ StationTallies.bounded_zero⟩

theorem reset_stationLaw : State.reset.stationLaw :=
  fun _ hr => List.eq_of_mem_replicate hr ▸ Station.inRange_goAbsent Station.reset

/-- Settles O4: each law on the reset values it reads. -/
theorem lawsAtReset : Obligations.LawsAtReset := by
  unfold Obligations.LawsAtReset
  refine ⟨rfl, ⟨Nat.zero_le _, List.nodup_nil, .nil⟩, Nat.zero_le _, ⟨List.nodup_nil, Nat.zero_le _, Nat.zero_le _⟩,
    ⟨Nat.zero_le _, List.nodup_nil, .nil⟩, ?tone, ⟨fun _ => rfl, List.forall_mem_nil _⟩, reset_tallyLaw, reset_stationLaw,
    reset_bindingLaw, reset_gaugeLaw, ⟨Nat.zero_le _, Nat.zero_lt_succ _⟩, State.tripLaw_iff.mpr TripLaw.reset,
    ⟨Nat.zero_le _, Nat.zero_le _⟩, State.clockLaw_iff.mpr ClockLaw.reset, State.reset_keepAliveLaw, ?sleep, ?writing,
    State.reset_lampLaw, reset_serviceLaw⟩
  case tone => exact State.toneLaw_iff.mpr ⟨iff_of_true rfl (by simp [State.reset]), .ofSilence State.reset.chime⟩
  case sleep => exact fun hsleep => nomatch hsleep
  case writing => exact ⟨Nat.le_refl 6, List.forall_mem_nil _, fun _ hj => nomatch hj⟩

/-! ## The resets -/

theorem cutMemory_idle {s : State} (h : s.pw.writing = none) (cut : Nat) : cutMemory s cut = s.mem := by
  unfold cutMemory
  rw [h]

theorem cutMemory_writing {s : State} {j : WriteJob} (h : s.pw.writing = some j) (cut : Nat) :
    cutMemory s cut = memWriteAll s.mem j.base (j.data.take cut) := by
  unfold cutMemory
  rw [h]

/-- Settles O5: the reset state with the pins, the memory and the waiting commands put in, and the straps read. -/
theorem resets : Obligations.Resets := by
  unfold Obligations.Resets
  intro s straps rear cut after pins
  have hon : exec (.powerOnReset straps rear cut) s = .next (after pins (cutMemory s cut)) := rfl
  have hpin : exec (.resetPin straps rear cut) s = .next (after pins (cutMemory s cut)) := rfl
  refine ⟨fun hidle => ?_, fun j hj => ?_, fun hpending hqueue hidle => ?_⟩
  · rw [hon, hpin, cutMemory_idle hidle]
    exact ⟨rfl, rfl⟩
  · rw [hon, hpin, cutMemory_writing hj]
    exact ⟨rfl, rfl⟩
  · show execRestartReset s = _
    unfold execRestartReset writesDone
    rw [hpending, hqueue, hidle]
    rfl

end Sys2Proof.Machine
end

section
/-! PROOFS. What follows every command at once: the lamps, the keep-alive timer and the return stage (R98, R172, R173). -/

namespace Sys2Proof.Machine

/-! ## The table, position by position -/

/-- What some record of the table has, some entry has. -/
theorem WarnUnit.table_any_iff {w : WarnUnit} {p : Option Warning → Bool} (hnone : p none = false) :
    w.table.any p = true ↔ ∃ n e, w.entry n = some e ∧ p (some e) = true := by
  rw [List.any_eq_true]
  constructor
  · rintro ⟨x, hx, hp⟩
    obtain ⟨n, hn, rfl⟩ := List.mem_iff_getElem.mp hx
    cases hval : w.table[n] with
    | none => simp [hval, hnone] at hp
    | some e =>
      refine ⟨n, e, ?_, hval ▸ hp⟩
      unfold WarnUnit.entry
      rw [List.getD_eq_getElem?_getD, List.getElem?_eq_getElem hn, hval]
      rfl
  · rintro ⟨n, e, he, hp⟩
    refine ⟨some e, ?_, hp⟩
    unfold WarnUnit.entry at he
    rw [List.getD_eq_getElem?_getD] at he
    cases hval : w.table[n]? with
    | none => simp [hval] at he
    | some x =>
      simp only [hval, Option.getD_some] at he
      exact he ▸ List.mem_of_getElem? hval

theorem lightsLamp_some {lamp : Nat} {e : Warning} :
    lightsLamp lamp (some e) = true ↔ e.cfg.lamp = some lamp ∧ (e.state = .active ∨ e.state = .acked) := by
  simp [lightsLamp]

theorem flashesLamp_some {lamp : Nat} {e : Warning} :
    flashesLamp lamp (some e) = true ↔ e.cfg.lamp = some lamp ∧ e.cfg.cls = .a ∧ e.state = .active := by
  simp only [flashesLamp, Bool.and_eq_true, beq_iff_eq]
  tauto

/-! ## The lamp states (R98) -/

theorem lampStateOf_flash_iff {w : WarnUnit} {lamp : Nat} :
    lampStateOf w lamp = .flash ↔ w.lampTest = none ∧
      ∃ n e, w.entry n = some e ∧ e.cfg.lamp = some lamp ∧ e.cfg.cls = .a ∧ e.state = .active := by
  have hany := WarnUnit.table_any_iff (w := w) (p := flashesLamp lamp) rfl
  simp only [flashesLamp_some] at hany
  rw [← hany]
  unfold lampStateOf
  cases w.lampTest with
  | some t => simp
  | none => by_cases hflash : w.table.any (flashesLamp lamp) <;> simp [hflash]; split <;> simp

theorem lampStateOf_off_iff {w : WarnUnit} {lamp : Nat} :
    lampStateOf w lamp = .off ↔ w.lampTest = none ∧
      ∀ n e, w.entry n = some e → e.cfg.lamp = some lamp → e.state ≠ .active ∧ e.state ≠ .acked := by
  have hlights : w.table.any (lightsLamp lamp) = true ↔
      ∃ n e, w.entry n = some e ∧ e.cfg.lamp = some lamp ∧ (e.state = .active ∨ e.state = .acked) := by
    simpa only [lightsLamp_some] using WarnUnit.table_any_iff (w := w) (p := lightsLamp lamp) rfl
  have hflashes : w.table.any (flashesLamp lamp) = true → w.table.any (lightsLamp lamp) = true := by
    rw [hlights, WarnUnit.table_any_iff rfl]
    rintro ⟨n, e, he, hp⟩
    obtain ⟨hlamp, -, hactive⟩ := flashesLamp_some.mp hp
    exact ⟨n, e, he, hlamp, .inl hactive⟩
  have hdark : (∀ n e, w.entry n = some e → e.cfg.lamp = some lamp → e.state ≠ .active ∧ e.state ≠ .acked) ↔
      w.table.any (lightsLamp lamp) = false := by
    rw [← Bool.not_eq_true, hlights]
    constructor
    · rintro h ⟨n, e, he, hlamp, hstate⟩
      obtain ⟨hactive, hacked⟩ := h n e he hlamp
      exact hstate.elim hactive hacked
    · intro h n e he hlamp
      exact ⟨fun hs => h ⟨n, e, he, hlamp, .inl hs⟩, fun hs => h ⟨n, e, he, hlamp, .inr hs⟩⟩
  rw [hdark]
  unfold lampStateOf
  cases w.lampTest with
  | some t => simp
  | none =>
    by_cases hflash : w.table.any (flashesLamp lamp) = true
    · simp [hflash, hflashes hflash]
    · by_cases hlight : w.table.any (lightsLamp lamp) = true <;> simp [hflash, hlight]

theorem State.finish_lamps (s : State) : s.finish.warn.lamps = (List.range 12).map (lampStateOf s.warn) := rfl

theorem State.finish_lamp (s : State) {lamp : Nat} (h : lamp < 12) :
    s.finish.warn.lamps[lamp]? = some (lampStateOf s.warn lamp) := by
  simp [State.finish_lamps, h]

/-! ## The timer and the return stage (R172, R173) -/

theorem State.finish_pw (s : State) : s.finish.pw = s.pw.settle (keepAwake s) := rfl

theorem PowerUnit.settle_eq (p : PowerUnit) (awake : Bool) :
    p.settle awake =
      { p with keepAlive := (p.settle awake).keepAlive, returning := (p.settle awake).returning } := by
  unfold PowerUnit.settle
  (repeat' split) <;> rfl

theorem State.finish_parts (s : State) : ∃ lamps timer stage, s.finish =
    { s with warn := { s.warn with lamps := lamps }, pw := { s.pw with keepAlive := timer, returning := stage } } := by
  refine ⟨(List.range 12).map (lampStateOf s.warn), (s.pw.settle (keepAwake s)).keepAlive,
    (s.pw.settle (keepAwake s)).returning, ?_⟩
  rw [← PowerUnit.settle_eq]
  rfl

/-- Settles O2: the lamps by the entries of the table, the timer and the return stage by their cases. -/
theorem finishSettles : Obligations.FinishSettles := by
  unfold Obligations.FinishSettles
  intro s
  refine ⟨s.finish_parts, by simp [State.finish_lamps], fun lamp hlamp => ?_, fun h => ?_, fun hstate hawake hret => ?_,
    fun hstate hawake hret => ?_⟩
  case refine_1 =>
    simp only [s.finish_lamp hlamp, Option.some.injEq]
    exact ⟨lampStateOf_off_iff, lampStateOf_flash_iff⟩
  case refine_2 =>
    rw [State.finish_pw]
    unfold PowerUnit.settle
    split
    · exact ⟨rfl, rfl⟩
    · rename_i hstandby
      rw [if_pos (h.resolve_left hstandby)]
      exact ⟨rfl, rfl⟩
  case refine_3 =>
    rw [State.finish_pw]
    simp [PowerUnit.settle, hstate, hawake, hret]
  case refine_4 =>
    rw [State.finish_pw]
    cases hkeep : s.pw.keepAlive <;> simp [PowerUnit.settle, hstate, hawake, hret, hkeep]

end Sys2Proof.Machine
end

section
/-! PROOFS. The changes of power state: STABILISE_END, RUN, START, the wake, the return stage and SLEEP (R170 to R173). -/

namespace Sys2Proof.Machine

/-! ## The readouts composed (R130) -/

section
variable {s : State}

theorem State.compose_active (h : s.pw.state = .active) :
    s.compose =
      s.setReadout { s.readout with message := messageText s, odoShown := odoText s, brightness := .full } := by
  unfold State.compose
  rw [h]

theorem State.compose_crank (h : s.pw.state = .crank) :
    s.compose =
      s.setReadout { s.readout with message := messageText s, odoShown := odoText s, brightness := .full } := by
  unfold State.compose
  rw [h]

theorem State.compose_standby (h : s.pw.state = .standby) :
    s.compose =
      s.setReadout { s.readout with message := clockPage s, odoShown := blankOdo, brightness := .dimmed } := by
  unfold State.compose
  rw [h]

/-- In LOAD, STABILISE and SLEEP the readouts are blank. -/
theorem State.compose_blank (h : s.pw.state = .load ∨ s.pw.state = .stabilise ∨ s.pw.state = .sleep) :
    s.compose =
      s.setReadout { s.readout with
        message := List.replicate 10 ' ', odoShown := blankOdo, brightness := .dark } := by
  unfold State.compose
  obtain h | h | h := h <;> rw [h]

end

/-- The cases of a composition by the power state. -/
theorem Power.composeCases (p : Power) :
    p = .active ∨ p = .crank ∨ p = .standby ∨ p = .load ∨ p = .stabilise ∨ p = .sleep := by
  cases p <;> simp

/-- A composition reads nothing of what the readouts show. -/
theorem State.compose_compose (s : State) : s.compose.compose = s.compose := by
  obtain h | h | h | h := Power.composeCases s.pw.state
  · rw [State.compose_active (s := s.compose) (by simpa using h), State.compose_active h]
    rfl
  · rw [State.compose_crank (s := s.compose) (by simpa using h), State.compose_crank h]
    rfl
  · rw [State.compose_standby (s := s.compose) (by simpa using h), State.compose_standby h]
    rfl
  · rw [State.compose_blank (s := s.compose) (by simpa using h), State.compose_blank h]
    rfl

/-- What follows every command at once is nothing the readouts show. -/
theorem State.finish_shown (s : State) :
    messageText s.finish = messageText s ∧ odoText s.finish = odoText s ∧ clockPage s.finish = clockPage s := by
  obtain ⟨lamps, timer, stage, h⟩ := s.finish_parts
  rw [h]
  exact ⟨rfl, rfl, rfl⟩

theorem State.finish_state (s : State) : s.finish.pw.state = s.pw.state := by
  obtain ⟨lamps, timer, stage, h⟩ := s.finish_parts
  rw [h]

theorem State.finish_compose (s : State) : s.finish.compose = s.compose.finish := by
  obtain ⟨hmessage, hodo, hclock⟩ := s.finish_shown
  have hstate := s.finish_state
  obtain h | h | h | h := Power.composeCases s.pw.state
  · rw [State.compose_active (hstate.trans h), State.compose_active h, hmessage, hodo]
    rfl
  · rw [State.compose_crank (hstate.trans h), State.compose_crank h, hmessage, hodo]
    rfl
  · rw [State.compose_standby (hstate.trans h), State.compose_standby h, hclock]
    rfl
  · rw [State.compose_blank (by rwa [hstate]), State.compose_blank h]
    rfl

theorem State.compose_enterCrank (s : State) : s.compose.enterCrank = s.enterCrank := by
  unfold State.compose
  split <;> rfl

/-! ## The entries in one piece -/

/-- The unknown timer started, where it is to start (R33). -/
def Accum.timed (a : Accum) : Accum :=
  { a with unknownTimer := if a.odoUnknown ∧ a.unknownTimer = none then some 0 else a.unknownTimer }

theorem State.startUnknownTimer_eq (s : State) : s.startUnknownTimer = s.setAcc s.acc.timed := by
  unfold State.startUnknownTimer Accum.timed
  split <;> rfl

/-- The write queue with an ODOMETER write, where odometer-unknown is clear (R28, R29). -/
def State.odometerQueue (s : State) : List WriteEntry :=
  if s.acc.odoUnknown then s.pw.queue else writeRequest s.pw.queue .odometer (slotWords s.acc.odo)

theorem State.requestOdometer_eq (s : State) :
    s.requestOdometer = s.setPw { s.pw with queue := s.odometerQueue } := by
  unfold State.requestOdometer State.odometerQueue
  split <;> rfl

/-! ## STABILISE_END (R170) -/

/-- An entry to ACTIVE or CRANK, on a state whose announcement is asked for already. -/
def State.enteredFrom (a : State) (now : Nat) (state : Power) (fill : Nat) (tone : Chimes) : State :=
  { a with pw := { a.pw with state := state }, trip := { a.trip with fastFill := fill },
           warn := { a.warn with lampTest := some (now + 3000) }, chime := tone }

/-- The announcement reads none of the other changes of the entry to ACTIVE. -/
theorem State.activeEntry_announce (s : State) :
    s.activeEntry.announce = (s.setAcc s.acc.timed).announce.enteredFrom s.pw.time .active 30 s.chime := by
  have hentry : s.activeEntry = (s.setAcc s.acc.timed).enteredFrom s.pw.time .active 30 s.chime := by
    unfold State.activeEntry
    rw [State.startUnknownTimer_eq]
    rfl
  have hself := State.sendFrame_eq_withLineOf (s.setAcc s.acc.timed) kindOdoAnnounce none (announceData s.acc)
  calc s.activeEntry.announce
      = ((s.setAcc s.acc.timed).enteredFrom s.pw.time .active 30 s.chime).withLineOf (s.setAcc s.acc.timed).announce := by
        rw [hentry]
        exact State.sendFrame_withLineOf ((s.setAcc s.acc.timed).enteredFrom s.pw.time .active 30 s.chime)
          (s.setAcc s.acc.timed) kindOdoAnnounce none (announceData s.acc)
    _ = ((s.setAcc s.acc.timed).withLineOf (s.setAcc s.acc.timed).announce).enteredFrom s.pw.time .active 30 s.chime := rfl
    _ = _ := congrArg (fun a : State => a.enteredFrom s.pw.time .active 30 s.chime) hself.symm

theorem State.activeEntry_announce_frame (s : State) :
    s.activeEntry.announce.chime = s.chime ∧ s.activeEntry.announce.pw.time = s.pw.time := by
  rw [State.activeEntry_announce]
  simp [State.enteredFrom, State.announce]

/-- A generator that falls silent keeps its queue alone, whatever it passed to before. -/
theorem Chimes.silence_awaken (c : Chimes) (now : Nat) : (c.awaken now).silence = c.silence := by
  unfold Chimes.silence Chimes.awaken
  rw [passToHead_queue]

theorem State.enteredFrom_setChime (a : State) (now : Nat) (p : Power) (fill : Nat) (c d : Chimes) :
    (a.enteredFrom now p fill c).setChime d = a.enteredFrom now p fill d := rfl

theorem State.enteredFrom_crank (a : State) (now : Nat) (p : Power) (fill : Nat) (c d : Chimes) :
    (((a.enteredFrom now p fill c).setPower .crank).setFastFill 0).setChime d = a.enteredFrom now .crank 0 d := rfl

/-- ACTIVE from LOAD or STABILISE, where START is off. -/
theorem State.enterActiveFresh_active {s : State} (h : s.pins.start = false) :
    s.enterActiveFresh =
      ((s.setAcc s.acc.timed).announce.enteredFrom s.pw.time .active 30 (s.chime.awaken s.pw.time)).compose := by
  obtain ⟨hchime, htime⟩ := s.activeEntry_announce_frame
  unfold State.enterActiveFresh State.crankIfStart State.awakenTone
  rw [hchime, htime, if_neg (by simpa using h), State.activeEntry_announce, State.enteredFrom_setChime]

/-- CRANK through ACTIVE, where START is on. -/
theorem State.enterActiveFresh_crank {s : State} (h : s.pins.start = true) :
    s.enterActiveFresh = ((s.setAcc s.acc.timed).announce.enteredFrom s.pw.time .crank 0 s.chime.silence).compose := by
  obtain ⟨hchime, htime⟩ := s.activeEntry_announce_frame
  unfold State.enterActiveFresh State.crankIfStart State.awakenTone
  rw [hchime, htime, if_pos (by simpa using h), State.compose_enterCrank, State.activeEntry_announce,
    State.enteredFrom_setChime]
  unfold State.enterCrank
  dsimp only
  rw [← Chimes.silence_awaken s.chime s.pw.time, ← State.enteredFrom_crank _ _ .active 30 (s.chime.awaken s.pw.time)]
  rfl

/-- Settles O9: the announcement is asked for on the state with the time and the timer alone, and the tone is left to the end. -/
theorem stabiliseEnd : Obligations.StabiliseEnd := by
  unfold Obligations.StabiliseEnd
  intro s hstate now timer announced entered
  have hrun : exec .stabiliseEnd s = done (s.advanceTo s.pw.stabiliseEnds).enterByRun := if_pos hstate
  have hann : announced.trip = s.trip ∧ announced.warn = s.warn := by simp [announced]
  have hentry (state : Power) (fill : Nat) (tone : Chimes) : announced.enteredFrom now state fill tone = entered state fill tone := by
    unfold State.enteredFrom
    rw [hann.1, hann.2]
  refine ⟨fun hrunOff => ?_, fun hrunOn hstart => ?_, fun hrunOn hstart => ?_⟩ <;> rw [hrun] <;> unfold State.enterByRun
  · rw [if_neg (by simpa using hrunOff), State.enterStandbyTone, State.standbyEntry, State.requestOdometer_eq]
    rfl
  · rw [if_pos (by simpa using hrunOn), State.enterActiveFresh_active (s := s.advanceTo s.pw.stabiliseEnds) hstart, ← hentry]
    rfl
  · rw [if_pos (by simpa using hrunOn), State.enterActiveFresh_crank (s := s.advanceTo s.pw.stabiliseEnds) hstart, ← hentry]
    rfl

/-! ## RUN and START outside SLEEP (R170) -/

theorem State.enterActiveStandby_active {s : State} (h : s.pins.start = false) :
    s.enterActiveStandby = s.activeEntry.compose := by
  unfold State.enterActiveStandby State.crankIfStart
  rw [if_neg (by simpa [State.activeEntry] using h)]

theorem State.enterActiveStandby_crank {s : State} (h : s.pins.start = true) :
    s.enterActiveStandby = s.activeEntry.enterCrank := by
  unfold State.enterActiveStandby State.crankIfStart
  rw [if_pos (by simpa [State.activeEntry] using h), State.compose_enterCrank]

theorem State.activeEntry_eq (s : State) :
    s.activeEntry = (((s.setPower .active).setFastFill 30).startLampTest).setAcc s.acc.timed := by
  unfold State.activeEntry
  rw [State.startUnknownTimer_eq]
  rfl

theorem State.standbyEntry_eq (s : State) :
    s.standbyEntry =
      (s.setPw { s.pw with state := .standby, queue := s.odometerQueue }).setTrip { s.trip with fastFill := 0 } := by
  unfold State.standbyEntry
  rw [State.requestOdometer_eq]
  rfl

/-- A level that changes no power state. -/
theorem execRunOn_level {s : State} (hoff : s.pins.run = false) (hstandby : s.pw.state ≠ .standby)
    (hsleep : s.pw.state ≠ .sleep) : execRunOn s = done (s.setPins { s.pins with run := true }) := by
  unfold execRunOn
  rw [hoff]
  cases h : s.pw.state <;> simp_all

theorem execStartOn_level {s : State} (hoff : s.pins.start = false) (hactive : s.pw.state ≠ .active)
    (hsleep : s.pw.state ≠ .sleep) : execStartOn s = done (s.setPins { s.pins with start := true }) := by
  unfold execStartOn
  rw [hoff]
  cases h : s.pw.state <;> simp_all

theorem execRunOn_standby {s : State} (hoff : s.pins.run = false) (hstate : s.pw.state = .standby) :
    execRunOn s = done (s.setPins { s.pins with run := true }).enterActiveStandby := by
  simp [execRunOn, hoff, hstate]

theorem execRunOff_on {s : State} (hon : s.pins.run = true) :
    execRunOff s =
      if s.pw.state = .active ∧ s.pins.start = false then done (s.setPins { s.pins with run := false }).enterStandbyActive
      else done (s.setPins { s.pins with run := false }) := if_pos hon

theorem execStartOff_on {s : State} (hon : s.pins.start = true) :
    execStartOff s =
      if s.pw.state = .crank then
        if s.pins.run then done (s.setPins { s.pins with start := false }).enterActiveCrank
        else done (s.setPins { s.pins with start := false }).enterStandbyTone
      else done (s.setPins { s.pins with start := false }) := if_pos hon

/-- Settles O10: the entries to ACTIVE, CRANK and STANDBY in one piece. -/
theorem runChanges : Obligations.RunChanges := by
  unfold Obligations.RunChanges
  intro s timer on
  refine ⟨fun hoff hstate hstart => ?_, fun hoff hstate hstart => ?_, fun hoff hstandby hsleep => ?_,
    fun hon hactive hstart => ?_, fun hon hother => ?_⟩
  · show execRunOn s = _
    rw [execRunOn_standby hoff hstate, State.enterActiveStandby_active (s := s.setPins { s.pins with run := true }) hstart,
      State.activeEntry_eq]
    rfl
  · show execRunOn s = _
    rw [execRunOn_standby hoff hstate, State.enterActiveStandby_crank (s := s.setPins { s.pins with run := true }) hstart,
      State.activeEntry_eq]
    rfl
  · exact execRunOn_level hoff hstandby hsleep
  · show execRunOff s = _
    rw [execRunOff_on hon, if_pos ⟨hactive, hstart⟩, State.enterStandbyActive, State.standbyEntry_eq]
    rfl
  · show execRunOff s = _
    rw [execRunOff_on hon, if_neg hother]
    rfl

/-- Settles O11: CRANK entered and left in one piece. -/
theorem startChanges : Obligations.StartChanges := by
  unfold Obligations.StartChanges
  intro s tone
  refine ⟨fun hoff hactive => ?_, fun hoff hactive hsleep => ?_, fun hon hcrank hrun => ?_, fun hon hcrank hrun => ?_,
    fun hon hcrank => ?_⟩
  · show execStartOn s = _
    simp only [execStartOn, hoff, State.setPins_pw, hactive]
    rfl
  · exact execStartOn_level hoff hactive hsleep
  · show execStartOff s = _
    rw [execStartOff_on hon, if_pos hcrank, if_pos hrun]
    rfl
  · show execStartOff s = _
    rw [execStartOff_on hon, if_pos hcrank, if_neg (by simp [hrun]), State.enterStandbyTone, State.standbyEntry_eq]
    rfl
  · show execStartOff s = _
    rw [execStartOff_on hon, if_neg hcrank]
    rfl

/-! ## The wake (R15, R23, R64, R164, R174) -/

theorem SigHeader.wake_eq (h : SigHeader) :
    h.wake = { h with fresh := if h.fresh = .fresh ∨ h.fresh = .stale then .lost else h.fresh } := by
  unfold SigHeader.wake loseFreshness Freshness.held
  simp

theorem Accum.wake_eq (a : Accum) (kDist : Nat) :
    a.wake kDist = { a with ring := [], fillDist := 0, fillFuel := 0, speed := 0 } := by
  simp [Accum.wake, speedOf, slotDist]

theorem State.wake_eq (s : State) :
    s.wake =
      { s with
        pw := s.pw.wake, line := s.line.wake, sig := s.sig.wake
        peer := { s.peer with stations := s.peer.stations.map Station.wake }
        acc := { s.acc with ring := [], fillDist := 0, fillFuel := 0, speed := 0 }
        gauges := s.gauges.map (fun c => { c with tick := 0 })
        readout := { s.readout with message := List.replicate 10 ' ', odoShown := blankOdo, brightness := .dark } } := by
  unfold State.wake
  dsimp only
  rw [State.compose_blank (by simp [PowerUnit.wake])]
  simp only [State.setSig_acc, State.setLine_acc, State.setPw_acc, State.setPeer_acc, Accum.wake_eq]
  rfl

/-- Settles O12: each of the three events wakes, and the wake in one piece. -/
theorem wake : Obligations.Wake := by
  unfold Obligations.Wake
  intro s hsleep lost woken
  have hwoken (pins : Pins) : (s.setPins pins).wake = woken pins := by
    rw [State.wake_eq]
    simp only [Signals.wake, SigHeader.wake_eq]
    rfl
  refine ⟨?_, fun hoff => ?_, fun hoff => ?_⟩
  · show execLineWakeEdge s = _
    rw [execLineWakeEdge, if_pos hsleep, ← hwoken]
    rfl
  · show execRunOn s = _
    simp only [execRunOn, hoff, State.setPins_pw, hsleep, ← hwoken]
    rfl
  · show execStartOn s = _
    simp only [execStartOn, hoff, State.setPins_pw, hsleep, ← hwoken]
    rfl

/-! ## The return stage and SLEEP (R172, R173) -/

theorem State.beginReturn_eq (s : State) :
    s.beginReturn =
      s.setPw { s.pw with
        returning := true, keepAlive := none
        queue :=
          let saved := writeRequest (writeRequest s.pw.queue .trip (tripWords s.trip)) .counters
            (countersWords s.service.hours s.readout.day)
          if s.acc.odoUnknown then saved else writeRequest saved .odometer (slotWords s.acc.odo) } := by
  unfold State.beginReturn
  rw [State.requestOdometer_eq]
  rfl

theorem sleepConditions_of {s : State} (hstate : s.pw.state = .standby) (hreturning : s.pw.returning = true)
    (hgauges : ∀ c ∈ s.gauges, c.state = .off ∨ (c.state = .returning ∧ c.angle = 0)) (hqueue : s.pw.queue = [])
    (hwriting : s.pw.writing = none) (htx : s.line.tx = []) : sleepConditions s = true := by
  have hreturn : returnComplete s = true := by
    unfold returnComplete
    simpa [Channel.complete] using hgauges
  simp [sleepConditions, writesDone, hstate, hreturning, hreturn, hqueue, hwriting, htx]

/-- Settles O13: the return stage begun, and ended in SLEEP, in one piece. -/
theorem returnToSleep : Obligations.ReturnToSleep := by
  unfold Obligations.ReturnToSleep
  refine ⟨fun s n hstate hkeep hperiod => ?_, fun s hstate hreturning hgauges hqueue hwriting htx => ?_⟩
  · show execKeepAliveExpiry s = _
    simp only [execKeepAliveExpiry, hkeep]
    rw [if_pos ⟨hstate, hperiod⟩, State.beginReturn_eq]
    rfl
  · show execEntryToSleep s = _
    rw [execEntryToSleep, if_pos (sleepConditions_of hstate hreturning hgauges hqueue hwriting htx)]
    unfold State.enterSleep
    dsimp only
    rw [State.compose_blank (by simp [PowerUnit.sleep])]
    rfl

end Sys2Proof.Machine
end

section
/-! PROOFS. The gauge tick, the update of one channel, and the movement of a pointer (R64 to R70, R76). -/

namespace Sys2Proof.Machine

/-! ## The gauge tick (R64, R73) -/

theorem gaugesRun_iff {p : Power} : gaugesRun p = true ↔ p = .stabilise ∨ p = .standby ∨ p = .active := by
  simp [gaugesRun, or_assoc]

/-- Settles O14: the tick counted, then every channel by its own share of it. -/
theorem gaugeTick : Obligations.GaugeTick := by
  unfold Obligations.GaugeTick
  intro s t ht ticked
  have hexec : exec .gaugeTick s =
      if gaugesRun s.pw.state then done (ticked.setGauges (s.gauges.map ticked.tickChannel)) else done ticked := by
    show execGaugeTick s = _
    simp only [execGaugeTick, ht]
    rfl
  rw [hexec]
  refine ⟨fun hruns => ?_, fun hruns => if_neg (gaugesRun_iff.not.mpr hruns)⟩
  have hchannel (c : Channel) : ticked.tickChannel c =
      if c.state = .off then c
      else if c.tick + 1 < c.cal.divider then { c with tick := c.tick + 1 }
      else s.updateChannel { c with tick := 0 } := by
    unfold State.tickChannel
    by_cases hdue : c.cal.divider ≤ c.tick + 1
    · rw [if_pos hdue, if_neg (Nat.not_lt.mpr hdue)]
      rfl
    · rw [if_neg hdue, if_pos (Nat.lt_of_not_le hdue)]
  rw [if_pos (gaugesRun_iff.mpr hruns), funext hchannel]
  rfl

/-! ## One update (R65 to R70, R76) -/

theorem updateAt_eq_set {α : Type} {l : List α} {n : Nat} {x : α} (f : α → α) (h : l[n]? = some x) :
    updateAt l n f = l.set n (f x) := by
  induction l generalizing n with
  | nil => rfl
  | cons y rest ih =>
    cases n with
    | zero =>
      obtain rfl : y = x := by simpa using h
      rfl
    | succ n => simpa [updateAt] using ih (by simpa using h)

theorem Channel.update_configured {c : Channel} (h : c.cal.source ≠ .off) (returning : Bool) (f : Freshness) (x : Int) :
    c.update returning f x =
      ({ c with tick := 0, state := decideState returning f
                angle := nextAngle c (decideState returning f) x } : Channel).drive := if_neg h

theorem coilDrive_first {a : Nat} (h : a < 360) :
    coilDrive a = (⟨sineEntry (a % 360 * 64 / 360), true⟩, ⟨sineEntry (64 - a % 360 * 64 / 360), true⟩) := by
  unfold coilDrive
  rw [show a / 360 = 0 by omega]
  rfl

theorem coilDrive_second {a : Nat} (h : 360 ≤ a) (h' : a < 720) :
    coilDrive a = (⟨sineEntry (64 - a % 360 * 64 / 360), true⟩, ⟨sineEntry (a % 360 * 64 / 360), false⟩) := by
  unfold coilDrive
  rw [show a / 360 = 1 by omega]
  rfl

theorem coilDrive_third {a : Nat} (h : 720 ≤ a) (h' : a < 1080) :
    coilDrive a = (⟨sineEntry (a % 360 * 64 / 360), false⟩, ⟨sineEntry (64 - a % 360 * 64 / 360), false⟩) := by
  unfold coilDrive
  rw [show a / 360 = 2 by omega]
  rfl

theorem coilDrive_full : coilDrive 1080 = (⟨sineEntry 64, false⟩, ⟨sineEntry 0, true⟩) := rfl

/-- Settles O15: an update decides the state, moves the pointer and drives the coils of one channel. -/
theorem channelUpdate : Obligations.ChannelUpdate := by
  unfold Obligations.ChannelUpdate
  intro s n c hc hruns
  have hexec : exec (.channelUpdate n) s =
      if gaugesRun s.pw.state ∧ c.due = true then done (s.setGauges (updateAt s.gauges n.val s.updateChannel))
      else absent s := by
    show execChannelUpdate n s = _
    simp only [execChannelUpdate, hc]
  rw [hexec]
  refine ⟨fun hoff => if_neg (by simp [Channel.due, hoff]), fun hstate hsource hdivider => ?_⟩
  have hdue : c.due = true := by simp [Channel.due, hstate, hsource, hdivider]
  have hupdate : s.updateChannel c = s.updateChannel { c with tick := 0 } := by
    unfold State.updateChannel
    rw [Channel.update_configured hsource, Channel.update_configured (c := { c with tick := 0 }) hsource]
    rfl
  rw [if_pos ⟨gaugesRun_iff.mpr hruns, hdue⟩, updateAt_eq_set _ hc, hupdate]
  refine ⟨_, rfl, rfl, ?_⟩
  unfold State.updateChannel
  rw [Channel.update_configured (c := { c with tick := 0 }) hsource]
  refine ⟨rfl, rfl, fun hret => ?_, fun hret hfresh => ?_, fun hret hstale => ?_, fun hret hlost => ?_, fun ha => ?_,
    fun ha ha' => ?_, fun ha ha' => ?_, fun ha => ?_⟩
  · rw [hret]
    exact ⟨rfl, rfl⟩
  · rw [hret, hfresh]
    exact ⟨rfl, rfl⟩
  · rw [hret, hstale]
    exact ⟨rfl, rfl⟩
  · rw [hret]
    obtain h | h := hlost <;> rw [h] <;> exact ⟨rfl, rfl⟩
  · exact Prod.ext_iff.mp (coilDrive_first ha)
  · exact Prod.ext_iff.mp (coilDrive_second ha ha')
  · exact Prod.ext_iff.mp (coilDrive_third ha ha')
  · exact Prod.ext_iff.mp ((congrArg coilDrive ha).trans coilDrive_full)

/-! ## Movement (R67) -/

/-- The size of a movement: the error over 2^k, at least one quarter-degree while there is an error, at most the limit. -/
theorem moveMagnitude_eq {err : Nat} (damping slew : Nat) (h : err ≠ 0) :
    moveMagnitude err damping slew =
      if slew < (if err / 2 ^ damping = 0 then 1 else err / 2 ^ damping) then slew
      else if err / 2 ^ damping = 0 then 1 else err / 2 ^ damping := by
  unfold moveMagnitude
  rw [show min 1 err = 1 by omega]
  generalize (if err / 2 ^ damping = 0 then 1 else err / 2 ^ damping) = size
  rw [Nat.min_def]
  split <;> split <;> omega

theorem moveMagnitude_zero (damping slew : Nat) : moveMagnitude 0 damping slew = 0 :=
  Nat.le_zero.mp (moveMagnitude_le 0 damping slew)

theorem moveMagnitude_le_slew (err damping slew : Nat) : moveMagnitude err damping slew ≤ slew := Nat.min_le_right _ _

theorem moveAngle_up {angle target : Nat} (damping slew : Nat) (h : angle < target) :
    moveAngle angle target damping slew = angle + moveMagnitude (target - angle) damping slew := if_pos h

theorem moveAngle_down {angle target : Nat} (damping slew : Nat) (h : target ≤ angle) :
    moveAngle angle target damping slew = angle - moveMagnitude (angle - target) damping slew :=
  if_neg (Nat.not_lt.mpr h)

/-! ## A curve looked up (R66) -/

theorem curveFrom_between {p q : CurvePoint} {rest : List CurvePoint} {x : Int} (hp : p.input ≤ x) (hq : x < q.input) :
    curveFrom p (q :: rest) x = p.angle + (x - p.input) * ((q.angle : Int) - p.angle) / (q.input - p.input) := by
  rw [curveFrom, if_neg (Int.not_le.mpr hq), Int.fdiv_eq_ediv_of_nonneg _ (by omega)]

theorem curveFrom_next {p q : CurvePoint} {rest : List CurvePoint} {x : Int} (hq : q.input ≤ x) :
    curveFrom p (q :: rest) x = curveFrom q rest x := by
  rw [curveFrom, if_pos hq]

/-- The lookup passes every point at or below the value. -/
theorem curveFrom_append {p l : CurvePoint} {rest before after : List CurvePoint} {x : Int}
    (hsorted : (p :: rest).Pairwise (fun a b => a.input ≤ b.input)) (hsplit : p :: rest = before ++ l :: after)
    (hl : l.input ≤ x) : curveFrom p rest x = curveFrom l after x := by
  induction before generalizing p rest with
  | nil =>
    obtain ⟨rfl, rfl⟩ := List.cons.inj hsplit
    rfl
  | cons b before ih =>
    obtain ⟨-, rfl⟩ := List.cons.inj hsplit
    have hrest := (List.pairwise_cons.mp hsorted).2
    cases before with
    | nil => exact curveFrom_next hl
    | cons q before =>
      have hq : q.input ≤ l.input := (List.pairwise_cons.mp hrest).1 l (by simp)
      exact (curveFrom_next (hq.trans hl)).trans (ih hrest rfl)

theorem curveAngle_above {p : CurvePoint} {rest : List CurvePoint} {x : Int} (h : p.input < x) :
    curveAngle (p :: rest) x = curveFrom p rest x := if_neg (Int.not_le.mpr h)

/-! ## The tank curve looked up (R44) -/

theorem tankFrom_between {p q : TankPoint} {rest : List TankPoint} {x : Nat} (hp : p.sender ≤ x) (hq : x < q.sender) :
    tankFrom p (q :: rest) x =
      p.volume + ((x : Int) - p.sender) * ((q.volume : Int) - p.volume) / ((q.sender : Int) - p.sender) := by
  rw [tankFrom, if_neg (Nat.not_le.mpr hq), Int.fdiv_eq_ediv_of_nonneg _ (by omega)]

theorem tankFrom_next {p q : TankPoint} {rest : List TankPoint} {x : Nat} (hq : q.sender ≤ x) :
    tankFrom p (q :: rest) x = tankFrom q rest x := by
  rw [tankFrom, if_pos hq]

theorem tankFrom_append {p l : TankPoint} {rest before after : List TankPoint} {x : Nat}
    (hsorted : (p :: rest).Pairwise (fun a b => a.sender ≤ b.sender)) (hsplit : p :: rest = before ++ l :: after)
    (hl : l.sender ≤ x) : tankFrom p rest x = tankFrom l after x := by
  induction before generalizing p rest with
  | nil =>
    obtain ⟨rfl, rfl⟩ := List.cons.inj hsplit
    rfl
  | cons b before ih =>
    obtain ⟨-, rfl⟩ := List.cons.inj hsplit
    have hrest := (List.pairwise_cons.mp hsorted).2
    cases before with
    | nil => exact tankFrom_next hl
    | cons q before =>
      have hq : q.sender ≤ l.sender := (List.pairwise_cons.mp hrest).1 l (by simp)
      exact (tankFrom_next (hq.trans hl)).trans (ih hrest rfl)

theorem tankVolume_above {p : TankPoint} {rest : List TankPoint} {x : Nat} (h : p.sender < x) :
    tankVolume (p :: rest) x = (tankFrom p rest x).toNat := if_neg (Nat.not_le.mpr h)

/-- A value on the segment between two volumes is not below 0. -/
theorem segment_nonneg {x l u : Int} {v w : Nat} (hl : l ≤ x) (hu : x < u) :
    0 ≤ (v : Int) + (x - l) * ((w : Int) - v) / (u - l) := by
  have hquot : -(v : Int) ≤ (x - l) * ((w : Int) - v) / (u - l) := by
    rw [Int.le_ediv_iff_mul_le (by omega)]
    calc -(v : Int) * (u - l) ≤ -(v : Int) * (x - l) := Int.mul_le_mul_of_nonpos_left (by omega) (by omega)
      _ ≤ ((w : Int) - v) * (x - l) := Int.mul_le_mul_of_nonneg_right (by omega) (by omega)
      _ = (x - l) * ((w : Int) - v) := Int.mul_comm _ _
  omega

/-- Settles O16: a movement up or down, and the lookups by the last point at or below the value. -/
theorem movementAndCurves : Obligations.MovementAndCurves := by
  unfold Obligations.MovementAndCurves
  refine ⟨fun angle target damping slew => ?_, ⟨fun p rest x hsorted => ⟨fun hx => if_pos hx, ?_, ?_⟩,
    fun p rest x hsorted => ⟨fun hx => if_pos hx, ?_, ?_⟩⟩, fun _ _ => rfl, fun c t hreceived => ?_, by decide, by decide,
    by decide⟩
  · intro err mag
    have hmag : err ≠ 0 → mag = moveMagnitude err.natAbs damping slew := fun herr => by
      rw [moveMagnitude_eq damping slew (Int.natAbs_ne_zero.mpr herr)]
      simp [mag, herr]
    have hle := moveMagnitude_le err.natAbs damping slew
    have hslew := moveMagnitude_le_slew err.natAbs damping slew
    obtain hlt | heq | hgt := Nat.lt_trichotomy angle target
    · have habs : err.natAbs = target - angle := by omega
      have hsign : err.sign = 1 := Int.sign_eq_one_of_pos (by omega)
      rw [moveAngle_up damping slew hlt, hsign, hmag (by omega), habs]
      rw [habs] at hle hslew
      omega
    · have herr : err = 0 := by omega
      rw [moveAngle_down damping slew heq.ge, heq, Nat.sub_self, moveMagnitude_zero]
      simp [herr]
    · have habs : err.natAbs = angle - target := by omega
      have hsign : err.sign = -1 := Int.sign_eq_neg_one_of_neg (by omega)
      rw [moveAngle_down damping slew hgt.le, hsign, hmag (by omega), habs]
      rw [habs] at hle hslew
      omega
  · intro l u before after hsplit hl hu hp
    rw [curveAngle_above hp, curveFrom_append hsorted hsplit hl, curveFrom_between hl hu]
  · intro l before hsplit hl hp
    rw [curveAngle_above hp, curveFrom_append hsorted hsplit hl]
    rfl
  · intro l u before after hsplit hl hu hp
    rw [tankVolume_above hp, tankFrom_append hsorted hsplit hl, tankFrom_between hl hu]
    exact Int.toNat_of_nonneg (segment_nonneg (by omega) (by omega))
  · intro l before hsplit hl hp
    rw [tankVolume_above hp, tankFrom_append hsorted hsplit hl]
    rfl
  · exact if_pos hreceived

end Sys2Proof.Machine
end

section
/-! PROOFS. One warning entry at an evaluation, the terms it reads, and the two expiries (R83 to R92). -/

namespace Sys2Proof.Machine

/-! ## The terms (R16, R79, R83 to R86) -/

/-- The flags of a kind, by bit number (R16). -/
def Signals.flags (t : Signals) (k : SignalKind) : List Bool :=
  match k with
  | .engine => [t.engine.chargeFault, t.engine.checkEngine, t.engine.oilSwitch]
  | .chassis => [t.chassis.fluidLow, t.chassis.parkingBrake, t.chassis.padWear]
  | .body => [t.body.door1, t.body.door2, t.body.door3, t.body.door4, t.body.partition, t.body.headlamp, t.body.bulbOut,
              t.body.keyIn, t.body.beltOpen]
  | .fuelLevel => [t.fuel.senderFault]

theorem Signals.flag_eq (t : Signals) (k : SignalKind) (bit : Nat) : t.flag k bit = (t.flags k).getD bit false := by
  cases k with
  | engine => match bit with
    | 0 | 1 | 2 => rfl
    | n + 3 => rfl
  | chassis => match bit with
    | 0 | 1 | 2 => rfl
    | n + 3 => rfl
  | body => match bit with
    | 0 | 1 | 2 | 3 | 4 | 5 | 6 | 7 | 8 => rfl
    | n + 9 => rfl
  | fuelLevel => match bit with
    | 0 => rfl
    | n + 1 => rfl

theorem Signals.remote_iff {t : Signals} {k : SignalKind} {bit : Nat} :
    t.remote k bit = true ↔
      ((t.hdr k).fresh = .fresh ∨ (t.hdr k).fresh = .stale) ∧ (t.flags k).getD bit false = true := by
  rw [Signals.remote, Bool.and_eq_true, Freshness.held_iff, Signals.flag_eq]

/-- The computed terms as statements, by code (R84 to R86). -/
def computedHolds (s : State) (w : WarnUnit) (call : Bool) : List Prop :=
  [w.fuelLow = true, w.coolantHot = true,
   s.sig.engineHdr.fresh = .fresh ∧ 400 ≤ s.sig.engine.speed ∧ s.sig.engine.oil < s.cal.oil, w.overspeed = true,
   ∃ i ∈ s.service.items, i.state = .soon, ∃ i ∈ s.service.items, i.state = .due ∨ i.state = .overdue,
   ∃ n, s.cal.watched = some n ∧ (s.peer.station n).state = .absent, ∃ r ∈ s.peer.stations, r.state = .slip,
   s.line.fault = true, s.acc.unknownCond = true ∨ s.acc.disagree = true, s.pw.calFault = true, call = true,
   s.readout.unset = true, s.peer.clash = true]

theorem computedTerm_iff {s : State} {w : WarnUnit} {call : Bool} {code : Nat} :
    computedTerm s w call code = true ↔ (computedHolds s w call).getD code False := by
  match code with
  | 0 | 1 | 3 | 8 | 10 | 11 | 12 | 13 => exact Iff.rfl
  | 2 =>
    show oilLow s.cal s.sig = true ↔ _ ∧ _
    simp [oilLow, and_assoc]
  | 4 =>
    show s.service.items.any _ = true ↔ ∃ _, _
    simp
  | 5 =>
    show s.service.items.any _ = true ↔ ∃ _, _
    simp
  | 6 =>
    show (match s.cal.watched with | some n => s.peer.isAbsent n | none => false) = true ↔ ∃ _, _
    cases s.cal.watched <;> simp [Peer.isAbsent]
  | 7 =>
    show s.peer.stations.any _ = true ↔ ∃ _, _
    simp
  | 9 =>
    show (_ || _) = true ↔ _ ∨ _
    simp
  | n + 14 => simp [computedTerm, computedHolds]

/-! ## Edges (R91) -/

theorem isEdgeOf_rise_iff {last : Option Bool} {cond : Bool} :
    isEdgeOf .edgeRise last cond = true ↔ last = some false ∧ cond = true := by
  rcases last with _ | _ | _ <;> cases cond <;> simp [isEdgeOf]

theorem isEdgeOf_fall_iff {last : Option Bool} {cond : Bool} :
    isEdgeOf .edgeFall last cond = true ↔ last = some true ∧ cond = false := by
  rcases last with _ | _ | _ <;> cases cond <;> simp [isEdgeOf]

theorem isEdgeOf_any_iff {last : Option Bool} {cond : Bool} :
    isEdgeOf .edgeAny last cond = true ↔ last = some (!cond) := by
  rcases last with _ | _ | _ <;> cases cond <;> simp [isEdgeOf]

/-! ## One entry at an evaluation (R87 to R92) -/

section
variable {s : State} {n : Nat} {e : Warning} {cond : Bool}

theorem State.evalEntry_forced (h : gateMet e.cfg.gate s.pw.state = false) :
    s.evalEntry n e cond =
      if e.state = .quiet then s.setWarn (s.warn.setEntry n { e with last := some cond })
      else s.storeAndSilence n { e with last := some cond, state := .quiet, count := 0, edgeTimer := 0 } := by
  unfold State.evalEntry
  rw [if_neg (by simp [h])]

theorem State.evalEntry_level (h : gateMet e.cfg.gate s.pw.state = true) (htrigger : e.cfg.trigger = .level) :
    s.evalEntry n e cond = s.evalLevel n { e with last := some cond } cond := by
  unfold State.evalEntry
  rw [if_pos h, if_neg (by simp [WarnCfg.isEdge, htrigger])]

theorem State.evalEntry_edge (h : gateMet e.cfg.gate s.pw.state = true) (htrigger : e.cfg.trigger ≠ .level) :
    s.evalEntry n e cond = s.evalEdge n { e with last := some cond } e.last cond := by
  unfold State.evalEntry
  rw [if_pos h, if_pos (by simpa [WarnCfg.isEdge] using htrigger)]

/-- The removal of an entry's chime goes with its new record. -/
theorem State.storeAndSilence_eq (s : State) (n : Nat) (e : Warning) :
    s.storeAndSilence n e = { s with warn := s.warn.setEntry n e, chime := s.chime.remove s.pw.time n } := rfl

end

theorem State.raiseWarning_marked {s : State} {n : Nat} {e : Warning} (h : e.mark ≠ none) :
    s.raiseWarning n e =
      s.setWarn (s.warn.setEntry n { e with state := .acked, count := 0, mark := none, edgeTimer := 0 }) := by
  obtain ⟨m, hm⟩ := Option.ne_none_iff_exists'.mp h
  simp [State.raiseWarning, hm]

/-- The state where an entry has become ACTIVE with the next raise order, before its chime is offered (R89). -/
def State.risen (s : State) (n : Nat) (e : Warning) : State :=
  s.setWarn { s.warn.setEntry n
    { e with state := .active, count := 0, raise := some s.warn.nextRaise, edgeTimer := 0 } with
    nextRaise := s.warn.nextRaise + 1 }

theorem State.raiseWarning_unmarked {s : State} {n : Nat} {e : Warning} (h : e.mark = none) :
    s.raiseWarning n e =
      if e.cfg.audience.includes s.pw.role then (s.risen n e).offerChime n e.cfg.cls else s.risen n e := by
  unfold State.raiseWarning
  split
  · rename_i m hm
    exact absurd (h.symm.trans hm) (by simp)
  · rfl

section
variable {s : State} {n : Nat} {e : Warning}

theorem State.evalLevel_quiet (h : e.state = .quiet) (cond : Bool) :
    s.evalLevel n e cond =
      if cond = false then s.setWarn (s.warn.setEntry n e)
      else if e.cfg.debounce = 0 then s.raiseWarning n e
      else s.setWarn (s.warn.setEntry n { e with state := .pending, count := e.cfg.debounce }) := by
  cases e
  cases h
  cases cond <;> rfl

theorem State.evalLevel_pending (h : e.state = .pending) (cond : Bool) :
    s.evalLevel n e cond =
      if cond = false then s.setWarn (s.warn.setEntry n { e with state := .quiet, count := 0 })
      else if e.count ≤ 1 then s.raiseWarning n e
      else s.setWarn (s.warn.setEntry n { e with count := e.count - 1 }) := by
  cases e
  cases h
  cases cond <;> rfl

theorem State.evalLevel_active (h : e.state = .active) (cond : Bool) :
    s.evalLevel n e cond =
      if cond = false then s.storeAndSilence n { e with state := .quiet } else s.setWarn (s.warn.setEntry n e) := by
  cases e
  cases h
  cases cond <;> rfl

theorem State.evalLevel_acked (h : e.state = .acked) (cond : Bool) :
    s.evalLevel n e cond =
      s.setWarn (s.warn.setEntry n (if cond = false then { e with state := .quiet } else e)) := by
  cases e
  cases h
  cases cond <;> rfl

theorem State.evalEdge_quiet (h : e.state = .quiet) (last : Option Bool) (cond : Bool) :
    s.evalEdge n e last cond =
      if isEdgeOf e.cfg.trigger last cond then s.raiseWarning n e else s.setWarn (s.warn.setEntry n e) := by
  cases e
  cases h
  rfl

theorem State.evalEdge_raised (h : e.state = .active ∨ e.state = .acked) (last : Option Bool) (cond : Bool) :
    s.evalEdge n e last cond =
      s.setWarn (s.warn.setEntry n (if s.chime.holds n then e else e.edgeStep)) := by
  cases e
  obtain h | h := h <;> cases h <;> rfl

theorem Warning.edgeStep_below (h : e.edgeTimer + 1 < 20) : e.edgeStep = { e with edgeTimer := e.edgeTimer + 1 } :=
  if_neg (by omega)

theorem Warning.edgeStep_end (h : 20 ≤ e.edgeTimer + 1) : e.edgeStep = { e with state := .quiet, edgeTimer := 20 } :=
  if_pos h

end

/-- Settles O18: the gate, then the rules of the trigger by the entry's state. -/
theorem entryAtEvaluation : Obligations.EntryAtEvaluation := by
  unfold Obligations.EntryAtEvaluation
  intro s n e cond seen keep hush
  refine ⟨fun hgate => ?_, fun hgate htrigger => ?_, fun hgate htrigger => ?_, fun w => ?_, isEdgeOf_rise_iff,
    isEdgeOf_fall_iff, isEdgeOf_any_iff, fun w call c => ?_⟩
  · exact State.evalEntry_forced hgate
  · rw [State.evalEntry_level hgate htrigger]
    refine ⟨fun hs hc => ?_, fun hs hc hd => ?_, fun hs hc hd => ?_, fun hs hc hle => ?_, fun hs hc hlt => ?_,
      fun hs hc => ?_, fun hs hc => ?_, fun hs hc => ?_, fun hs hc => ?_⟩
    · exact (State.evalLevel_quiet (e := seen) hs cond).trans (if_pos hc)
    · exact (State.evalLevel_quiet (e := seen) hs cond).trans ((if_neg (by simp [hc])).trans (if_pos hd))
    · exact (State.evalLevel_quiet (e := seen) hs cond).trans ((if_neg (by simp [hc])).trans (if_neg hd))
    · exact (State.evalLevel_pending (e := seen) hs cond).trans ((if_neg (by simp [hc])).trans (if_pos hle))
    · exact (State.evalLevel_pending (e := seen) hs cond).trans
        ((if_neg (by simp [hc])).trans (if_neg (Nat.not_le.mpr hlt)))
    · exact (State.evalLevel_pending (e := seen) hs cond).trans (if_pos hc)
    · obtain hs | hs := hs
      · exact (State.evalLevel_active (e := seen) hs cond).trans (if_neg (by simp [hc]))
      · rw [State.evalLevel_acked (e := seen) hs cond, if_neg (by simp [hc])]
        rfl
    · exact (State.evalLevel_active (e := seen) hs cond).trans (if_pos hc)
    · rw [State.evalLevel_acked (e := seen) hs cond, if_pos hc]
      rfl
  · rw [State.evalEntry_edge hgate htrigger]
    refine ⟨fun hs hedge => ?_, fun hs hedge => ?_, fun hs hheld => ?_, fun hs hheld hlt => ?_, fun hs hheld hle => ?_⟩
    · exact (State.evalEdge_quiet (e := seen) hs e.last cond).trans (if_pos hedge)
    · exact (State.evalEdge_quiet (e := seen) hs e.last cond).trans (if_neg (by simpa using hedge))
    · rw [State.evalEdge_raised (e := seen) hs, if_pos hheld]
      rfl
    · rw [State.evalEdge_raised (e := seen) hs, if_neg (by simp [hheld]), Warning.edgeStep_below (e := seen) hlt]
      rfl
    · rw [State.evalEdge_raised (e := seen) hs, if_neg (by simp [hheld]), Warning.edgeStep_end (e := seen) hle]
      rfl
  · intro up raised counted
    refine ⟨fun hm => State.raiseWarning_marked hm, fun hm haud => ?_, fun hm haud => ?_⟩
    · rw [State.raiseWarning_unmarked hm, if_neg (by simp [haud])]
      rfl
    · rw [State.raiseWarning_unmarked hm, if_pos haud]
      rfl
  · intro value flags computed
    refine ⟨fun h => ?_, fun h => ?_, fun h => ?_, fun h => ?_, fun pin => rfl, fun k bit => ?_, fun code => ?_, rfl⟩
    · simp only [combined, h]; rfl
    · simp only [combined, h]; rfl
    · simp only [combined, h]; rfl
    · simp only [combined, h]; rfl
    · have hflags : flags k = s.sig.flags k := by cases k <;> rfl
      rw [hflags]
      exact Signals.remote_iff
    · exact computedTerm_iff

/-! ## The expiries (R88, R89, R92) -/

/-- Settles O19: each expiry where its row's conditions hold, with the rise of O18 and the edge timer's last step. -/
theorem warningExpiries : Obligations.WarningExpiries := by
  unfold Obligations.WarningExpiries
  intro s n e he hgate
  refine ⟨fun hstate hcount htrigger hcond => ?_, fun hstate htimer htrigger hheld => ?_⟩
  · intro risen raised
    have hexec : exec (.debounceExpiry n) s = done (s.raiseWarning n.val { e with last := some true }) := by
      show execDebounceExpiry n s = _
      simp only [execDebounceExpiry, he]
      exact if_pos ⟨hstate, hcount, by simp [WarnCfg.isEdge, htrigger], hgate, hcond⟩
    rw [hexec]
    refine ⟨fun m hm => ?_, fun hm haud => ?_, fun hm haud => ?_⟩
    · rw [State.raiseWarning_marked (by simp [hm])]
      rfl
    · rw [State.raiseWarning_unmarked (by simpa using hm), if_pos haud]
      rfl
    · rw [State.raiseWarning_unmarked (by simpa using hm), if_neg (by simp [haud])]
      rfl
  · show execEdgeTimerExpiry n s = _
    simp only [execEdgeTimerExpiry, he]
    rw [if_pos ⟨hstate, htimer, by simpa [WarnCfg.isEdge] using htrigger, hgate, hheld⟩,
      Warning.edgeStep_end (by simp [htimer])]
    rfl

end Sys2Proof.Machine
end

section
/-! PROOFS. The shares of a tick that come alone: ageing, expiries, the day step, engine hours, heartbeats (R13, R41, R96, R100,
R117, R135, R140, R160, R163). -/

namespace Sys2Proof.Machine

/-! ## Ageing (R13, R14, R163) -/

theorem execSignalStale_stale {s : State} {k : SignalKind} {t : Nat} (htick : s.pw.nextTrip = some t)
    (hfresh : (s.sig.hdr k).fresh = .fresh)
    (hage : max s.pw.time (tickAtOrAfter t 100 ((s.sig.hdr k).arrival + maxAge k + 1)) - (s.sig.hdr k).arrival < lostAge k) :
    execSignalStale k s = done ((s.advanceTo
      (max s.pw.time (tickAtOrAfter t 100 ((s.sig.hdr k).arrival + maxAge k + 1)))).setSig
        (s.sig.setHdr k { s.sig.hdr k with fresh := .stale })) := by
  unfold execSignalStale
  rw [htick]
  exact if_pos ⟨hfresh, hage⟩

theorem execSignalLost_lost {s : State} {k : SignalKind} {t : Nat} (htick : s.pw.nextTrip = some t)
    (hheld : (s.sig.hdr k).fresh = .fresh ∨ (s.sig.hdr k).fresh = .stale) :
    execSignalLost k s = done ((s.advanceTo (tickAtOrAfter t 100 ((s.sig.hdr k).arrival + lostAge k))).setSig
      (s.sig.setHdr k { s.sig.hdr k with fresh := .lost })) := by
  unfold execSignalLost
  rw [htick]
  exact if_pos ((Freshness.held_iff _).mpr hheld)

theorem execStationAbsent_absent {s : State} {n : StationNo} {t : Nat} (htick : s.pw.nextTrip = some t)
    (hstate : (s.peer.station n).state ≠ .absent) :
    execStationAbsent n s =
      done ((s.advanceTo (tickAtOrAfter t 100 ((s.peer.station n).lastTime + 1000))).markAbsent n) := by
  unfold execStationAbsent
  rw [htick]
  exact if_pos hstate

theorem State.advanceTo_max (s : State) (t : Nat) : s.advanceTo (max s.pw.time t) = s.advanceTo t := by
  unfold State.advanceTo
  rw [← Nat.max_assoc, Nat.max_self]

theorem SigHeader.stationLost_eq (h : SigHeader) (n : StationNo) :
    h.stationLost n =
      if h.bound = some n ∧ (h.fresh = .fresh ∨ h.fresh = .stale) then { h with fresh := .lost } else h := by
  by_cases hbound : h.bound = some n
  · by_cases hheld : h.fresh = .fresh ∨ h.fresh = .stale
    · rw [if_pos ⟨hbound, hheld⟩, SigHeader.stationLost, if_pos hbound, loseFreshness,
        if_pos ((Freshness.held_iff _).mpr hheld)]
    · rw [if_neg (fun h => hheld h.2), SigHeader.stationLost, if_pos hbound, loseFreshness,
        if_neg (fun h => hheld ((Freshness.held_iff _).mp h))]
  · rw [if_neg (fun h => hbound h.1), SigHeader.stationLost, if_neg hbound]

/-- The record of each station after one is marked ABSENT (R163). -/
theorem State.station_markAbsent {s : State} {n : StationNo} (h : (s.peer.station n).state ≠ .absent) (m : StationNo) :
    (s.markAbsent n).peer.station m = if m = n then (s.peer.station n).markAbsent else s.peer.station m := by
  have hlen : n.toNat < s.peer.stations.length :=
    Peer.length_of_present (by simpa [Peer.isAbsent] using h)
  show (s.peer.setStation n Station.markAbsent).station m = _
  split
  · next heq => rw [heq, Peer.station_setStation_same _ _ hlen]
  · next hne => rw [Peer.station_setStation_other _ _ hne]

/-- Settles O20: each row where its conditions hold; the record changed has one, as it is not ABSENT. -/
theorem ageingRows : Obligations.AgeingRows := by
  unfold Obligations.AgeingRows
  refine ⟨fun s => BitVec.toNat_ofNat _ _, timebaseCount_age, fun s t htick => ⟨?_, ?_, ?_⟩⟩
  · intro k at' hfresh hage
    show execSignalStale k s = _
    rw [execSignalStale_stale htick hfresh hage, State.advanceTo_max]
    rfl
  · intro k at' hheld
    show execSignalLost k s = _
    rw [execSignalLost_lost htick hheld]
    rfl
  · intro n at' hstate
    have htime : ∀ u : State, u.finish.pw.time = u.pw.time := fun u => by rw [State.finish_pw, PowerUnit.settle_eq]
    refine ⟨_, execStationAbsent_absent htick hstate, htime _, fun m => ?_, fun k => ?_,
      rfl, rfl, rfl, rfl, rfl, rfl, rfl, rfl, rfl⟩
    · exact State.station_markAbsent (s := s.advanceTo _) hstate m
    · exact (Signals.hdr_stationLost s.sig n k).trans (SigHeader.stationLost_eq _ n)

/-! ## Shares of the ticks -/

theorem execMarkExpiry_eq {s : State} {n : Fin 32} {e : Warning} {m : Nat} (he : s.warn.entry n.val = some e)
    (hm : e.mark = some m) :
    execMarkExpiry n s = done ((s.advanceTo (tickAtOrAfter s.pw.nextSecond 1000 m)).setWarn
      (s.warn.setEntry n.val { e with mark := none })) := by
  simp only [execMarkExpiry, he, hm]

theorem execLampTestEnd_eq {s : State} {m : Nat} (hm : s.warn.lampTest = some m) :
    execLampTestEnd s =
      done ((s.advanceTo (tickAtOrAfter s.pw.nextSecond 1000 m)).setWarn { s.warn with lampTest := none }) := by
  simp only [execLampTestEnd, hm]

/-- Midnight with the day counter below its maximum: the clock at 0, the day raised, the COUNTERS write and the items. -/
theorem State.clockSecond_midnight {s : State} (hh : s.readout.hour = 23) (hm : s.readout.minute = 59)
    (hsec : s.readout.second = 59) (hday : s.readout.day < 65535) :
    s.clockSecond = State.sendClock { s with
      readout := { s.readout with hour := 0, minute := 0, second := 0, day := s.readout.day + 1 }
      pw := { s.pw with queue := writeRequest s.pw.queue .counters (countersWords s.service.hours (s.readout.day + 1)) }
      service := { s.service with
        items := s.service.items.map (fun x =>
          { x with state := itemState x s.acc.odo (s.readout.day + 1) s.service.hours }) } } := by
  simp only [State.clockSecond, State.clockMinute, State.clockHour, State.dayStep, State.setReadout, hh, hm, hsec, maxDay,
    Nat.lt_irrefl, if_false, hday, if_true]
  rfl

/-- A CLOCK frame goes at the FRONT cluster alone, while the clock is set and the Dispatcher runs (R142). -/
theorem State.sendClock_eq (s : State) :
    s.sendClock =
      if s.pw.role = .front ∧ s.readout.unset = false ∧
          (s.pw.state = .standby ∨ s.pw.state = .active ∨ s.pw.state = .crank) then
        s.sendFrame kindClock none (clockData s.readout)
      else s := by
  unfold State.sendClock
  simp only [dispatcherRuns_iff]

theorem execEngineHoursStep_eq {s : State} (hrun : engineRunning s = true) (hsec : s.service.seconds = 359) :
    execEngineHoursStep s = done s.tenthStep := if_pos ⟨hrun, hsec⟩

theorem State.tenthStep_sameHour {s : State} (hlt : s.service.hours < 999999)
    (h : (s.service.hours + 1) / 10 = s.service.hours / 10) :
    s.tenthStep = { s with service := { s.service with seconds := 0, hours := s.service.hours + 1 } } := by
  unfold State.tenthStep
  rw [if_pos hlt]
  exact if_neg (not_not_intro h)

/-- The state after a whole-hour step: the items evaluated and the COUNTERS write queued (R118). -/
theorem State.tenthStep_newHour {s : State} (hlt : s.service.hours < 999999)
    (h : (s.service.hours + 1) / 10 ≠ s.service.hours / 10) :
    s.tenthStep = { s with
      service := { s.service with
        seconds := 0, hours := s.service.hours + 1
        items := s.service.items.map (fun x =>
          { x with state := itemState x s.acc.odo s.readout.day (s.service.hours + 1) }) }
      pw := { s.pw with
        queue := writeRequest s.pw.queue .counters (countersWords (s.service.hours + 1) s.readout.day) } } := by
  unfold State.tenthStep
  rw [if_pos hlt]
  exact if_pos h

theorem State.tenthStep_full {s : State} (h : 999999 ≤ s.service.hours) :
    s.tenthStep = { s with service := { s.service with seconds := 0 } } := by
  unfold State.tenthStep
  exact if_neg (Nat.not_lt.mpr h)

theorem State.unknownSecond_end {s : State} {t : Nat} (h : s.acc.unknownTimer = some t) (ht : 30 ≤ t + 1) :
    s.unknownSecond = State.sendFrame
      { s with acc := { s.acc with unknownTimer := none, odoUnknown := false }
               pw := { s.pw with queue := writeRequest s.pw.queue .odometer (slotWords s.acc.odo) } }
      kindOdoAnnounce none [byteOf s.acc.odo 2, byteOf s.acc.odo 1, byteOf s.acc.odo 0, 0#8] := by
  unfold State.unknownSecond
  simp only [h, ht, if_true]
  rfl

/-- Settles O21: each share where its row's conditions hold. -/
theorem tickShares : Obligations.TickShares := by
  unfold Obligations.TickShares
  refine ⟨fun s => ⟨fun hstate hfill => ?_, fun hpage hcount htick => ?_, fun n e m he hm => ?_, fun m hm => ?_,
    rfl, rfl, rfl, rfl⟩, fun s => ⟨fun hh hm hsec hday => ?_, fun hrun hsec hlt => ⟨fun h => ?_, fun h => ?_⟩,
    fun hrun hsec hle => ?_, fun htimer => ?_⟩⟩
  · exact if_pos ⟨hstate, hfill⟩
  · show execRotationAdvance s = _
    rw [execRotationAdvance, if_pos ⟨hpage, hcount, htick⟩]
    simp only [State.rotationTick, Readout.rotate, hpage, hcount]
    rfl
  · exact execMarkExpiry_eq he hm
  · exact execLampTestEnd_eq hm
  · intro r u
    show execDayStep s = _
    rw [execDayStep, if_pos ⟨hh, hm, hsec, hday⟩, State.clockSecond_midnight hh hm hsec hday, State.sendClock_eq]
    have hdata : clockData { s.readout with hour := 0, minute := 0, second := 0, day := s.readout.day + 1 } =
        [0#8, 0#8, 0#8, byteOf (s.readout.day + 1) 1, byteOf (s.readout.day + 1) 0] := by
      have hzero : byteOf 0 0 = 0#8 := by decide
      simp only [clockData, hzero]
    rw [hdata]
    rfl
  · show execEngineHoursStep s = _
    rw [execEngineHoursStep_eq hrun hsec, State.tenthStep_sameHour hlt h]
    rfl
  · show execEngineHoursStep s = _
    rw [execEngineHoursStep_eq hrun hsec, State.tenthStep_newHour hlt h]
    rfl
  · show execEngineHoursStep s = _
    rw [execEngineHoursStep_eq hrun hsec, State.tenthStep_full hle]
    rfl
  · show execUnknownTimeout s = _
    rw [execUnknownTimeout, if_pos htimer, State.unknownSecond_end htimer (by omega)]
    rfl

/-! ## Heartbeats (R160, R168, R169) -/

theorem nextSequence_eq (v : BitVec 7) :
    nextSequence v = BitVec.ofNat 7 (v.toNat * 2 % 128 + (v.toNat / 64 + v.toNat / 32) % 2) := by
  revert v
  decide

/-- The power code of a STATUS, by state (R160). -/
def statusCode (p : Power) : Nat :=
  match p with
  | .standby => 1
  | .active => 2
  | .crank => 3
  | _ => 0

theorem statusFlags_eq (rear clash : Bool) (p : Power) :
    bit1 rear ++ bit1 clash ++ 0#4 ++ powerCode p =
      BitVec.ofNat 8 ((if rear then 128 else 0) + (if clash then 64 else 0) + statusCode p) := by
  cases rear <;> cases clash <;> cases p <;> rfl

theorem statusData_eq (s : State) (v : BitVec 7) :
    statusData s v =
      [BitVec.ofNat 8 v.toNat,
       BitVec.ofNat 8 ((if s.pw.role = .rear then 128 else 0) + (if s.peer.clash then 64 else 0) + statusCode s.pw.state)] := by
  have hvalue : (0#1 ++ v : Byte) = BitVec.ofNat 8 v.toNat := by
    revert v
    decide
  unfold statusData
  rw [hvalue, statusFlags_eq]
  simp only [beq_iff_eq]

theorem State.heartbeat_some {s : State} {v : BitVec 7} (h : s.peer.generator = some v) :
    s.heartbeat = State.sendFrame
      (s.setPeer { s.peer with generator := some (nextSequence v), count := nextCount s.peer, once := false })
      kindStatus none (statusData s (statusValue s.peer v)) := by
  simp only [State.heartbeat, h]

/-- Settles O22: the tick's time, then the own STATUS where the Dispatcher runs. -/
theorem heartbeatTick : Obligations.HeartbeatTick := by
  unfold Obligations.HeartbeatTick
  intro s t v htick hgen ticked due sent next code flags
  have hexec : exec .heartbeatTick s = if dispatcherRuns s.pw.state then done ticked.heartbeat else done ticked := by
    show execHeartbeatTick s = _
    simp only [execHeartbeatTick, htick]
    rfl
  refine ⟨fun hruns => ?_, fun hnot => ?_⟩
  · rw [hexec, if_pos ((dispatcherRuns_iff _).mpr hruns)]
    rw [State.heartbeat_some (s := ticked) hgen, nextSequence_eq, statusData_eq]
    rfl
  · rw [hexec, if_neg (fun h => hnot ((dispatcherRuns_iff _).mp h))]
    rfl

end Sys2Proof.Machine
end

section
/-! PROOFS. The work of the second (R33, R37, R96, R100, R117, R140, R142, R172). -/

namespace Sys2Proof.Machine

/-! ## What a request to send changes (R153, R154, R167) -/

/-- The state with another transmit queue, report sequence and own tallies. -/
def State.queued (s : State) (tx : List TxEntry) (report : List (Nat × Nat)) (tally : OwnTallies) : State :=
  { s with line := { s.line with tx := tx }, peer := { s.peer with report := report }, tally := tally }

theorem State.queueFrame_queued (s : State) (r : TxResult) :
    ∃ tally, s.queueFrame r = s.queued r.queue s.peer.report tally := by
  unfold State.queueFrame
  dsimp only
  split <;> exact ⟨_, rfl⟩

theorem sendReports_queued (parts : List (Nat × Nat)) (s : State) :
    ∃ tx report tally, sendReports parts s = s.queued tx report tally := by
  induction parts generalizing s with
  | nil => exact ⟨s.line.tx, [], s.tally, rfl⟩
  | cons p rest ih =>
    unfold sendReports
    obtain ⟨tally, hqueue⟩ := s.queueFrame_queued
      (txRequest s.line.tx kindTallyReport (some p.1) (reportData s.peer.snapshot p.1 p.2))
    dsimp only
    rw [hqueue]
    split
    · obtain ⟨tx, report, tally', h⟩ := ih (s.queued _ s.peer.report tally)
      exact ⟨tx, report, tally', h⟩
    · exact ⟨_, p :: rest, tally, rfl⟩

theorem State.departure_queued (s : State) (kind : BitVec 5) :
    ∃ tx report tally, s.departure kind = s.queued tx report tally := by
  unfold State.departure
  split
  · exact sendReports_queued _ s
  · exact ⟨s.line.tx, s.peer.report, s.tally, rfl⟩

/-- A request to send changes the transmit queue, the report sequence and the tallies, and nothing else. -/
theorem State.sendFrame_queued (s : State) (kind : BitVec 5) (subject : Option Nat) (data : List Byte) :
    ∃ tx report tally, s.sendFrame kind subject data = s.queued tx report tally := by
  unfold State.sendFrame
  obtain ⟨tally, hqueue⟩ := s.queueFrame_queued (txRequest s.line.tx kind subject data)
  dsimp only
  rw [hqueue]
  split
  · obtain ⟨tx, report, tally', h⟩ := State.departure_queued (s.queued _ s.peer.report tally) _
    exact ⟨tx, report, tally', h⟩
  · exact ⟨_, _, _, rfl⟩

/-- What a request to send leaves of the Line Port and of the Peer Supervisor. -/
theorem State.sendFrame_line_peer (s : State) (kind : BitVec 5) (subject : Option Nat) (data : List Byte) :
    (s.sendFrame kind subject data).line = { s.line with tx := (s.sendFrame kind subject data).line.tx } ∧
      (s.sendFrame kind subject data).peer = { s.peer with report := (s.sendFrame kind subject data).peer.report } := by
  obtain ⟨tx, report, tally, h⟩ := s.sendFrame_queued kind subject data
  rw [h]
  exact ⟨rfl, rfl⟩

/-! ## The clock's share (R140, R142) -/

/-- The second that passes midnight with the day counter below its maximum. -/
@[reducible] def Readout.midnight (r : Readout) : Prop := 59 ≤ r.second ∧ 59 ≤ r.minute ∧ 23 ≤ r.hour ∧ r.day < 65535

/-- The clock one second on. -/
def Readout.nextSecond (r : Readout) : Readout :=
  { r with
    second := if r.second < 59 then r.second + 1 else 0
    minute := if r.second < 59 then r.minute else if r.minute < 59 then r.minute + 1 else 0
    hour := if r.second < 59 ∨ r.minute < 59 then r.hour else if r.hour < 23 then r.hour + 1 else 0
    day := if r.second < 59 ∨ r.minute < 59 ∨ r.hour < 23 then r.day else if r.day < 65535 then r.day + 1 else r.day }

/-- The clock one second on, with the COUNTERS write and the items of a day step, before the CLOCK frame. -/
def State.clockStep (s : State) : State :=
  if s.readout.midnight then (s.setReadout s.readout.nextSecond).dayFollows else s.setReadout s.readout.nextSecond

theorem State.clockSecond_eq (s : State) :
    s.clockSecond = if s.readout.second < 59 then s.clockStep else s.clockStep.sendClock := by
  unfold State.clockSecond State.clockStep
  by_cases hsec : s.readout.second < 59
  · have hmid : ¬ s.readout.midnight := fun h => absurd h.1 (by omega)
    rw [if_pos hsec, if_pos hsec, if_neg hmid]
    simp [Readout.nextSecond, hsec]
  · rw [if_neg hsec, if_neg hsec]
    congr 1
    by_cases hmin : s.readout.minute < 59
    · have hmid : ¬ s.readout.midnight := fun h => absurd h.2.1 (by omega)
      rw [if_neg hmid]
      simp [State.clockMinute, Readout.nextSecond, State.setReadout, hsec, hmin]
    · by_cases hhour : s.readout.hour < 23
      · have hmid : ¬ s.readout.midnight := fun h => absurd h.2.2.1 (by omega)
        rw [if_neg hmid]
        simp [State.clockMinute, State.clockHour, Readout.nextSecond, State.setReadout, hsec, hmin, hhour]
      · by_cases hday : s.readout.day < 65535
        · have hmid : s.readout.midnight := ⟨by omega, by omega, by omega, hday⟩
          rw [if_pos hmid]
          simp [State.clockMinute, State.clockHour, State.dayStep, maxDay, Readout.nextSecond, State.setReadout, hsec, hmin,
            hhour, hday]
        · have hmid : ¬ s.readout.midnight := fun h => hday h.2.2.2
          rw [if_neg hmid]
          simp [State.clockMinute, State.clockHour, State.dayStep, maxDay, Readout.nextSecond, State.setReadout, hsec, hmin,
            hhour, hday]

theorem State.clockStep_eq (s : State) :
    s.clockStep = { s with
      readout := s.readout.nextSecond
      pw := { s.pw with queue := s.clockStep.pw.queue }
      service := { s.service with items := s.clockStep.service.items } } := by
  unfold State.clockStep
  split <;> rfl

/-- The write queue after the clock's share, and the service items. -/
theorem State.clockStep_writes (s : State) :
    s.clockStep.pw.queue =
        (if s.readout.midnight then
          writeRequest s.pw.queue .counters (countersWords s.service.hours s.readout.nextSecond.day)
         else s.pw.queue) ∧
      s.clockStep.service.items =
        (if s.readout.midnight then
          s.service.items.map (fun x => x.evaluate s.acc.odo s.readout.nextSecond.day s.service.hours)
         else s.service.items) := by
  unfold State.clockStep
  split <;> exact ⟨rfl, rfl⟩

/-- The clock's share, apart from the CLOCK frame. -/
theorem State.clockSecond_blocks (s : State) :
    s.clockSecond.readout = s.readout.nextSecond ∧ s.clockSecond.pw = s.clockStep.pw ∧
      s.clockSecond.service = s.clockStep.service ∧
      s.clockSecond.line = { s.line with tx := s.clockSecond.line.tx } ∧
      s.clockSecond.peer = { s.peer with report := s.clockSecond.peer.report } := by
  have hstep := s.clockStep_eq
  have hsend : ∀ u : State, u.sendClock.line = { u.line with tx := u.sendClock.line.tx } ∧
      u.sendClock.peer = { u.peer with report := u.sendClock.peer.report } := by
    intro u
    unfold State.sendClock
    split
    · exact u.sendFrame_line_peer ..
    · exact ⟨rfl, rfl⟩
  have hparts : s.clockStep.readout = s.readout.nextSecond ∧ s.clockStep.line = s.line ∧ s.clockStep.peer = s.peer := by
    rw [hstep]
    exact ⟨rfl, rfl, rfl⟩
  obtain ⟨hreadout, hline, hpeer⟩ := hparts
  rw [State.clockSecond_eq]
  split
  · exact ⟨hreadout, rfl, rfl, by rw [hline], by rw [hpeer]⟩
  · obtain ⟨hl, hp⟩ := hsend s.clockStep
    refine ⟨by simpa using hreadout, by simp, by simp, by rw [hl, hline], by rw [hp, hpeer]⟩

/-- The CLOCK frame of a minute change, at a transmit queue with room (R142). -/
theorem State.clockSecond_tx {s : State} (hroom : s.line.tx.length < 8) :
    s.clockSecond.line.tx =
      if 59 ≤ s.readout.second ∧ s.pw.role = .front ∧ s.readout.unset = false ∧
          (s.pw.state = .standby ∨ s.pw.state = .active ∨ s.pw.state = .crank) then
        (txRequest s.line.tx kindClock none (clockData s.readout.nextSecond)).queue
      else s.line.tx := by
  have hblocks : s.clockStep.line = s.line ∧ s.clockStep.readout = s.readout.nextSecond ∧
      s.clockStep.pw.role = s.pw.role ∧ s.clockStep.pw.state = s.pw.state := by
    rw [s.clockStep_eq]
    exact ⟨rfl, rfl, rfl, rfl⟩
  obtain ⟨hline, hreadout, hrole, hstate⟩ := hblocks
  rw [State.clockSecond_eq]
  by_cases hsec : s.readout.second < 59
  · rw [if_pos hsec, if_neg (fun h => absurd h.1 (by omega)), hline]
  · have hunset : s.readout.nextSecond.unset = s.readout.unset := rfl
    rw [if_neg hsec, State.sendClock_eq, hrole, hreadout, hunset, hstate]
    split
    · next h =>
      rw [if_pos ⟨Nat.le_of_not_lt hsec, h⟩, State.sendFrame_tx (by rw [hline]; exact hroom), hline]
    · next h => rw [if_neg (fun h' => h h'.2), hline]

/-! ## The engine hours (R117, R118) -/

/-- A running second that raises the whole hours. -/
@[reducible] def State.hourPasses (s : State) : Prop :=
  engineRunning s = true ∧ 360 ≤ s.service.seconds + 1 ∧ s.service.hours < 999999 ∧
    (s.service.hours + 1) / 10 ≠ s.service.hours / 10

/-- The seconds count and the hours after a second. -/
def State.hoursNext (s : State) : Nat × Nat :=
  if engineRunning s then
    (if 360 ≤ s.service.seconds + 1 then
      (0, if s.service.hours < 999999 then s.service.hours + 1 else s.service.hours)
     else (s.service.seconds + 1, s.service.hours))
  else (s.service.seconds, s.service.hours)

theorem State.engineSecond_eq (s : State) :
    s.engineSecond = { s with
      service :=
        { seconds := s.hoursNext.1, hours := s.hoursNext.2
          items :=
            (if s.hourPasses then
              s.service.items.map (fun x => x.evaluate s.acc.odo s.readout.day s.hoursNext.2)
             else s.service.items) }
      pw := { s.pw with
        queue :=
          (if s.hourPasses then
            writeRequest s.pw.queue .counters (countersWords s.hoursNext.2 s.readout.day)
           else s.pw.queue) } } := by
  unfold State.engineSecond
  by_cases hrun : engineRunning s = true
  · by_cases hsec : 360 ≤ s.service.seconds + 1
    · by_cases hlt : s.service.hours < 999999
      · have hnext : s.hoursNext = (0, s.service.hours + 1) := by simp [State.hoursNext, hrun, hsec, hlt]
        rw [if_pos hrun, if_pos hsec, hnext]
        by_cases hhour : (s.service.hours + 1) / 10 = s.service.hours / 10
        · have hpass : ¬ s.hourPasses := fun h => h.2.2.2 hhour
          rw [State.tenthStep_sameHour hlt hhour, if_neg hpass, if_neg hpass]
        · have hpass : s.hourPasses := ⟨hrun, hsec, hlt, hhour⟩
          rw [State.tenthStep_newHour hlt hhour, if_pos hpass, if_pos hpass]
          rfl
      · have hnext : s.hoursNext = (0, s.service.hours) := by simp [State.hoursNext, hrun, hsec, hlt]
        have hpass : ¬ s.hourPasses := fun h => hlt h.2.2.1
        rw [if_pos hrun, if_pos hsec, hnext, State.tenthStep_full (Nat.le_of_not_lt hlt), if_neg hpass, if_neg hpass]
    · have hnext : s.hoursNext = (s.service.seconds + 1, s.service.hours) := by simp [State.hoursNext, hrun, hsec]
      have hpass : ¬ s.hourPasses := fun h => hsec h.2.1
      rw [if_pos hrun, if_neg hsec, hnext, if_neg hpass, if_neg hpass]
      rfl
  · have hnext : s.hoursNext = (s.service.seconds, s.service.hours) := by simp [State.hoursNext, hrun]
    have hpass : ¬ s.hourPasses := fun h => hrun h.1
    rw [if_neg hrun, hnext, if_neg hpass, if_neg hpass]

/-- An item's state depends on the whole hours alone. -/
theorem itemState_hours {x : ServiceItem} {odo day h h' : Nat} (heq : h / 10 = h' / 10) :
    itemState x odo day h = itemState x odo day h' := by
  unfold itemState hoursUsed
  rw [heq]

/-! ## The unknown timer (R33) -/

/-- The second at which the unknown timer ends. -/
@[reducible] def Accum.timesOut (a : Accum) : Prop := ∃ m, a.unknownTimer = some m ∧ 30 ≤ m + 1

theorem State.unknownSecond_out {s : State} (h : s.acc.timesOut) :
    s.unknownSecond = State.sendFrame
      { s with acc := { s.acc with unknownTimer := none, odoUnknown := false }
               pw := { s.pw with queue := writeRequest s.pw.queue .odometer (slotWords s.acc.odo) } }
      kindOdoAnnounce none [byteOf s.acc.odo 2, byteOf s.acc.odo 1, byteOf s.acc.odo 0, 0#8] := by
  obtain ⟨m, hm, hle⟩ := h
  exact State.unknownSecond_end hm hle

theorem State.unknownSecond_runs {s : State} (h : ¬ s.acc.timesOut) :
    s.unknownSecond = s.setAcc { s.acc with unknownTimer := s.acc.unknownTimer.map (· + 1) } := by
  unfold State.unknownSecond
  cases hm : s.acc.unknownTimer with
  | none =>
    show s = s.setAcc { s.acc with unknownTimer := none }
    rw [← hm]
    rfl
  | some m => exact if_neg (fun hle => h ⟨m, hm, hle⟩)

/-! ## The keep-alive timer (R172) -/

/-- The keep-alive period ends at this second. -/
def State.periodEnds (s : State) : Prop :=
  s.pw.state = .standby ∧ s.pw.returning = false ∧ awakeReason s = false ∧ s.pw.queue = [] ∧
    s.pw.writing = none ∧ s.cal.keepAlive ≤ s.pw.keepAlive.getD 0 + 1

theorem PowerUnit.settle_awake (p : PowerUnit) : p.settle true = { p with keepAlive := none, returning := false } := by
  unfold PowerUnit.settle
  rw [if_pos (rfl : true = true)]
  exact ite_self _

theorem PowerUnit.settle_timer_iff {p : PowerUnit} {awake : Bool} {n : Nat} :
    (p.settle awake).keepAlive = some n ↔
      p.state = .standby ∧ awake = false ∧ p.returning = false ∧ n = p.keepAlive.getD 0 := by
  unfold PowerUnit.settle
  by_cases hstate : p.state = .standby
  · cases awake
    · cases hreturn : p.returning
      · cases hkeep : p.keepAlive <;> simp [hstate, hkeep, eq_comm]
      · simp [hstate]
    · simp [hstate]
  · simp [hstate]

theorem keepAwake_eq_false_iff {s : State} (h : s.pw.returning = false) :
    keepAwake s = false ↔ awakeReason s = false ∧ s.pw.queue = [] ∧ s.pw.writing = none := by
  simp [keepAwake, writesDone, h]

theorem keepAwake_congr {s t : State} (hsig : t.sig = s.sig) (htable : t.warn.table = s.warn.table)
    (hreturn : t.pw.returning = s.pw.returning) (hqueue : t.pw.queue = s.pw.queue)
    (hwriting : t.pw.writing = s.pw.writing) : keepAwake t = keepAwake s := by
  unfold keepAwake
  rw [awakeReason_congr hsig htable, writesDone_congr hqueue hwriting, hreturn]

theorem State.keepAliveSecond_eq (s : State) :
    s.keepAliveSecond =
      match (s.pw.settle (keepAwake s)).keepAlive with
      | none => s.setPw (s.pw.settle (keepAwake s))
      | some n =>
        if s.cal.keepAlive ≤ n + 1 then (s.setPw (s.pw.settle (keepAwake s))).beginReturn
        else s.setPw { s.pw.settle (keepAwake s) with keepAlive := some (n + 1) } := rfl

/-- At the end of the period the return stage begins. -/
theorem State.keepAliveSecond_ends {s : State} (h : s.periodEnds) : s.keepAliveSecond = s.beginReturn := by
  obtain ⟨hstate, hreturn, hreason, hqueue, hwriting, hle⟩ := h
  have hawake : keepAwake s = false := (keepAwake_eq_false_iff hreturn).mpr ⟨hreason, hqueue, hwriting⟩
  have htimer : (s.pw.settle (keepAwake s)).keepAlive = some (s.pw.keepAlive.getD 0) :=
    PowerUnit.settle_timer_iff.mpr ⟨hstate, hawake, hreturn, rfl⟩
  rw [State.keepAliveSecond_eq, htimer]
  dsimp only
  rw [if_pos hle, State.beginReturn_eq, State.beginReturn_eq, PowerUnit.settle_eq]
  rfl

/-- Within the period the timer and the return stage alone change. -/
theorem State.keepAliveSecond_within {s : State} (h : ¬ s.periodEnds) :
    ∃ timer stage, s.keepAliveSecond = s.setPw { s.pw with keepAlive := timer, returning := stage } := by
  rw [State.keepAliveSecond_eq]
  split
  · exact ⟨_, _, congrArg s.setPw (PowerUnit.settle_eq _ _)⟩
  · next n htimer =>
    obtain ⟨hstate, hawake, hreturn, hn⟩ := PowerUnit.settle_timer_iff.mp htimer
    obtain ⟨hreason, hqueue, hwriting⟩ := (keepAwake_eq_false_iff hreturn).mp hawake
    split
    · next hle => exact absurd ⟨hstate, hreturn, hreason, hqueue, hwriting, hn ▸ hle⟩ h
    · refine ⟨some (n + 1), (s.pw.settle (keepAwake s)).returning, ?_⟩
      rw [PowerUnit.settle_eq]

/-- A timer that runs counts up below its period. -/
theorem State.keepAliveSecond_counts {s : State} {m : Nat} (hstate : s.pw.state = .standby)
    (hreturn : s.pw.returning = false) (hawake : keepAwake s = false) (htimer : s.pw.keepAlive = some m)
    (hlt : m + 1 < s.cal.keepAlive) : s.keepAliveSecond = s.setPw { s.pw with keepAlive := some (m + 1) } := by
  have hsettle : s.pw.settle (keepAwake s) = s.pw := by
    simp [PowerUnit.settle, hstate, hawake, hreturn, htimer]
  rw [State.keepAliveSecond_eq, hsettle, htimer]
  exact if_neg (by omega)

/-- A reason to keep awake stops the timer. -/
theorem State.keepAliveSecond_awake {s : State} (hawake : keepAwake s = true) :
    s.keepAliveSecond = s.setPw { s.pw with keepAlive := none, returning := false } := by
  rw [State.keepAliveSecond_eq, hawake, PowerUnit.settle_awake]

end Sys2Proof.Machine
end

section
/-! PROOFS. ONE_SECOND_TICK: the shares of the blocks put together (log 7). -/

namespace Sys2Proof.Machine

/-- The work of the second before the keep-alive timer is judged. -/
def State.secondWork (s : State) : State := s.clockSecond.engineSecond.elapsedSecond.warningSecond.unknownSecond

/-- The write queue after the day step, the whole hour and the unknown timeout of a second. -/
def State.secondWrites (s : State) : List WriteEntry :=
  let days :=
    (if s.readout.midnight then
      writeRequest s.pw.queue .counters (countersWords s.service.hours s.readout.nextSecond.day)
     else s.pw.queue)
  let hours :=
    (if s.hourPasses then writeRequest days .counters (countersWords s.hoursNext.2 s.readout.nextSecond.day) else days)
  (open Classical in if s.acc.timesOut then writeRequest hours .odometer (slotWords s.acc.odo) else hours)

section
variable (s : State)

theorem State.clockSecond_engine :
    s.clockSecond.hoursNext = s.hoursNext ∧ (s.clockSecond.hourPasses ↔ s.hourPasses) := by
  obtain ⟨-, hpw, hservice, -⟩ := s.clockSecond_blocks
  have hparts : s.clockStep.pw.state = s.pw.state ∧ s.clockStep.service.seconds = s.service.seconds ∧
      s.clockStep.service.hours = s.service.hours := by
    rw [s.clockStep_eq]
    exact ⟨rfl, rfl, rfl⟩
  obtain ⟨hstate, hseconds, hhours⟩ := hparts
  have hrun : engineRunning s.clockSecond = engineRunning s := by simp [engineRunning, hpw, hstate]
  unfold State.hoursNext State.hourPasses
  rw [hrun, hservice, hseconds, hhours]
  exact ⟨rfl, Iff.rfl⟩

/-- The readout, the service block and the write queue after the shares of the clock and of the engine hours. -/
theorem State.engineShare :
    s.clockSecond.engineSecond.readout = s.readout.nextSecond ∧
      s.clockSecond.engineSecond.service.seconds = s.hoursNext.1 ∧
      s.clockSecond.engineSecond.service.hours = s.hoursNext.2 := by
  obtain ⟨hreadout, -⟩ := s.clockSecond_blocks
  rw [State.engineSecond_eq, s.clockSecond_engine.1]
  exact ⟨hreadout, rfl, rfl⟩

theorem State.engineShare_items :
    s.clockSecond.engineSecond.service.items =
      (if s.readout.midnight ∨ s.hourPasses then
        s.service.items.map (fun x => x.evaluate s.acc.odo s.readout.nextSecond.day s.hoursNext.2)
       else s.service.items) := by
  obtain ⟨hreadout, -, hservice, -⟩ := s.clockSecond_blocks
  obtain ⟨hnext, hpasses⟩ := s.clockSecond_engine
  obtain ⟨-, hitems⟩ := s.clockStep_writes
  have hacc : s.clockSecond.acc = s.acc := by simp
  have hold : s.clockSecond.service.items = _ := (congrArg Service.items hservice).trans hitems
  rw [State.engineSecond_eq]
  dsimp only
  rw [hreadout, hold, hnext, hacc]
  by_cases hpass : s.hourPasses
  · rw [if_pos (hpasses.mpr hpass), if_pos (Or.inr hpass)]
    split
    · rw [List.map_map]
      rfl
    · rfl
  · rw [if_neg (fun h => hpass (hpasses.mp h))]
    have hhours : s.hoursNext.2 / 10 = s.service.hours / 10 := by
      unfold State.hoursNext
      by_contra hne
      split at hne
      · split at hne
        · next hrun hsec =>
          dsimp only at hne
          split at hne
          · next hlt => exact hpass ⟨hrun, hsec, hlt, hne⟩
          · exact hne rfl
        · exact hne rfl
      · exact hne rfl
    by_cases hmid : s.readout.midnight
    · rw [if_pos hmid, if_pos (Or.inl hmid)]
      exact List.map_congr_left (fun x _ => by rw [ServiceItem.evaluate, ServiceItem.evaluate, itemState_hours hhours])
    · rw [if_neg hmid, if_neg (not_or.mpr ⟨hmid, hpass⟩)]

theorem State.engineShare_pw :
    s.clockSecond.engineSecond.pw = { s.pw with
      queue :=
        (let days :=
          (if s.readout.midnight then
            writeRequest s.pw.queue .counters (countersWords s.service.hours s.readout.nextSecond.day)
           else s.pw.queue)
         if s.hourPasses then writeRequest days .counters (countersWords s.hoursNext.2 s.readout.nextSecond.day)
         else days) } := by
  obtain ⟨hreadout, hpw, -⟩ := s.clockSecond_blocks
  obtain ⟨hnext, hpasses⟩ := s.clockSecond_engine
  have hqueue := s.clockStep_writes.1
  have hstep : s.clockStep.pw = { s.pw with queue := s.clockStep.pw.queue } := by
    rw [s.clockStep_eq]
  rw [State.engineSecond_eq]
  dsimp only
  rw [hreadout, hnext, hpw, hstep, hqueue]
  by_cases hpass : s.hourPasses
  · rw [if_pos hpass, if_pos (hpasses.mpr hpass)]
  · rw [if_neg hpass, if_neg (fun h => hpass (hpasses.mp h))]

end

section
variable (s : State)

theorem WarnUnit.entry_expireMarks (w : WarnUnit) (now n : Nat) {e : Warning} (h : w.entry n = some e) :
    (w.expireMarks now).entry n = some { e with mark := match e.mark with
      | some m => if m ≤ now then none else some m
      | none => none } := by
  rw [WarnUnit.entry_map (w := w) (f := fun x => x.expireMark now) rfl, h, Option.map_some]
  unfold Warning.expireMark
  obtain ⟨cfg, state, count, last, mark, raise, timer⟩ := e
  cases mark with
  | none => rfl
  | some m =>
    dsimp only
    split <;> rfl

theorem WarnUnit.endLampTest_lampTest (w : WarnUnit) (now : Nat) :
    (w.endLampTest now).lampTest =
      match w.lampTest with
      | some m => if m ≤ now then none else some m
      | none => none := by
  unfold WarnUnit.endLampTest
  cases h : w.lampTest with
  | none => exact h
  | some m =>
    dsimp only
    split
    · rfl
    · exact h

/-- The state before the unknown timer's share: the clock and the engine hours, then the elapsed times, marks and lamp test. -/
def State.beforeTimeout : State :=
  { s.clockSecond.engineSecond with
    trip := (if s.pw.state = .active ∨ s.pw.state = .crank then s.trip.add 0 0 1 else s.trip)
    warn := (s.warn.expireMarks s.pw.time).endLampTest s.pw.time }

theorem State.secondWork_eq : s.secondWork = s.beforeTimeout.unknownSecond := by
  have hpw := s.engineShare_pw
  have hstate : s.clockSecond.engineSecond.pw.state = s.pw.state := by rw [hpw]
  have htime : s.clockSecond.engineSecond.pw.time = s.pw.time := by rw [hpw]
  have htrip : s.clockSecond.engineSecond.trip = s.trip := by simp
  have hwarn : s.clockSecond.engineSecond.warn = s.warn := by simp
  have helapsed : s.clockSecond.engineSecond.elapsedSecond = s.clockSecond.engineSecond.setTrip
      (if s.pw.state = .active ∨ s.pw.state = .crank then s.trip.add 0 0 1 else s.trip) := by
    unfold State.elapsedSecond
    rw [hstate, htrip]
    split
    · rfl
    · rw [← htrip]
      rfl
  unfold State.secondWork State.warningSecond
  rw [helapsed]
  simp only [State.setTrip_pw, State.setTrip_warn, htime, hwarn]
  rfl

/-- What the second's work leaves of each block before the keep-alive timer is judged. -/
theorem State.secondWork_blocks :
    s.secondWork.readout = s.readout.nextSecond ∧
      s.secondWork.service = s.clockSecond.engineSecond.service ∧
      s.secondWork.trip = (if s.pw.state = .active ∨ s.pw.state = .crank then s.trip.add 0 0 1 else s.trip) ∧
      s.secondWork.warn = (s.warn.expireMarks s.pw.time).endLampTest s.pw.time := by
  obtain ⟨hreadout, -⟩ := s.engineShare
  rw [State.secondWork_eq]
  refine ⟨?_, ?_, ?_, ?_⟩
  · simpa [State.beforeTimeout] using hreadout
  · simp [State.beforeTimeout]
  · simp [State.beforeTimeout]
  · simp [State.beforeTimeout]

theorem State.secondWork_frame :
    s.secondWork.sig = s.sig ∧ s.secondWork.cal = s.cal ∧ s.secondWork.pins = s.pins ∧ s.secondWork.mem = s.mem ∧
      s.secondWork.gauges = s.gauges ∧ s.secondWork.chime = s.chime ∧ s.secondWork.pending = s.pending := by
  rw [State.secondWork_eq]
  simp [State.beforeTimeout]

theorem State.beforeTimeout_acc : s.beforeTimeout.acc = s.acc := by simp [State.beforeTimeout]

theorem State.secondWork_pw : s.secondWork.pw = { s.pw with queue := s.secondWrites } := by
  have hpw : s.beforeTimeout.pw = s.clockSecond.engineSecond.pw := rfl
  have hacc := s.beforeTimeout_acc
  rw [State.secondWork_eq]
  by_cases hout : s.acc.timesOut
  · rw [State.unknownSecond_out (by rw [hacc]; exact hout)]
    simp [hpw, State.engineShare_pw, State.secondWrites, hout, hacc]
  · rw [State.unknownSecond_runs (by rw [hacc]; exact hout)]
    simp [hpw, State.engineShare_pw, State.secondWrites, hout]

theorem State.secondWork_acc :
    s.secondWork.acc = { s.acc with
      unknownTimer := s.secondWork.acc.unknownTimer, odoUnknown := s.secondWork.acc.odoUnknown } ∧
    (s.secondWork.acc.unknownTimer, s.secondWork.acc.odoUnknown) = (match s.acc.unknownTimer with
      | none => (none, s.acc.odoUnknown)
      | some m => if 30 ≤ m + 1 then (none, false) else (some (m + 1), s.acc.odoUnknown)) := by
  have hacc := s.beforeTimeout_acc
  rw [State.secondWork_eq]
  by_cases hout : s.acc.timesOut
  · rw [State.unknownSecond_out (by rw [hacc]; exact hout)]
    obtain ⟨m, hm, hle⟩ := hout
    simp [hacc, hm, hle]
  · rw [State.unknownSecond_runs (by rw [hacc]; exact hout)]
    cases hm : s.acc.unknownTimer with
    | none => simp [hacc, hm]
    | some m =>
      have hlt : ¬ 30 ≤ m + 1 := fun hle => hout ⟨m, hm, hle⟩
      simp [hacc, hm, hlt]

/-- The frames of the second's work, at a transmit queue with room for both (R33, R142). -/
theorem State.secondWork_tx (hroom : s.clockSecond.line.tx.length < 8) :
    s.secondWork.line.tx =
      (open Classical in if s.acc.timesOut then
        (txRequest s.clockSecond.line.tx kindOdoAnnounce none
          [byteOf s.acc.odo 2, byteOf s.acc.odo 1, byteOf s.acc.odo 0, 0#8]).queue
       else s.clockSecond.line.tx) := by
  have hacc := s.beforeTimeout_acc
  have hline : s.beforeTimeout.line = s.clockSecond.line := by simp [State.beforeTimeout]
  rw [State.secondWork_eq]
  by_cases hout : s.acc.timesOut
  · rw [State.unknownSecond_out (by rw [hacc]; exact hout), if_pos hout, hacc, ← hline]
    exact State.sendFrame_tx (by rw [← hline] at hroom; exact hroom)
  · rw [State.unknownSecond_runs (by rw [hacc]; exact hout), if_neg hout, ← hline]
    rfl

theorem State.unknownSecond_line_peer :
    s.unknownSecond.line.inbound = s.line.inbound ∧ s.unknownSecond.peer.stations = s.peer.stations := by
  by_cases hout : s.acc.timesOut
  · rw [State.unknownSecond_out hout]
    obtain ⟨hline, hpeer⟩ := State.sendFrame_line_peer
      { s with acc := { s.acc with unknownTimer := none, odoUnknown := false }
               pw := { s.pw with queue := writeRequest s.pw.queue .odometer (slotWords s.acc.odo) } }
      kindOdoAnnounce none [byteOf s.acc.odo 2, byteOf s.acc.odo 1, byteOf s.acc.odo 0, 0#8]
    rw [hline, hpeer]
    exact ⟨rfl, rfl⟩
  · rw [State.unknownSecond_runs hout]
    exact ⟨rfl, rfl⟩

theorem State.secondWork_line_peer :
    s.secondWork.line.inbound = s.line.inbound ∧ s.secondWork.peer.stations = s.peer.stations := by
  obtain ⟨-, -, -, hline, hpeer⟩ := s.clockSecond_blocks
  have hbefore : s.beforeTimeout.line = s.clockSecond.line ∧ s.beforeTimeout.peer = s.clockSecond.peer := by
    simp [State.beforeTimeout]
  obtain ⟨hinbound, hstations⟩ := s.beforeTimeout.unknownSecond_line_peer
  rw [State.secondWork_eq, hinbound, hstations, hbefore.1, hbefore.2, hline, hpeer]
  exact ⟨rfl, rfl⟩

/-- The marks that expire leave the reasons to keep awake as they are. -/
theorem State.secondWork_awakeReason : awakeReason s.secondWork = awakeReason s := by
  obtain ⟨-, -, -, hwarn⟩ := s.secondWork_blocks
  obtain ⟨hsig, -⟩ := s.secondWork_frame
  have hactive : s.secondWork.warn.table.any entryActive = s.warn.table.any entryActive := by
    rw [hwarn, (WarnUnit.endLampTest_table _ _).1]
    show (s.warn.table.map _).any entryActive = _
    rw [List.any_map]
    congr 1
    funext e
    cases e with
    | none => rfl
    | some x => exact congrArg (· == WarnState.active) (x.expireMark_cfg_state s.pw.time).2
  unfold awakeReason
  rw [hsig, hactive]

theorem State.keepAliveSecond_parts : ∃ queue timer stage,
    s.keepAliveSecond = s.setPw { s.pw with queue := queue, keepAlive := timer, returning := stage } := by
  by_cases h : s.periodEnds
  · rw [State.keepAliveSecond_ends h, State.beginReturn_eq]
    exact ⟨_, _, _, rfl⟩
  · obtain ⟨timer, stage, h⟩ := State.keepAliveSecond_within h
    exact ⟨_, timer, stage, h⟩

end

/-- A request on a queue of at most seven entries leaves at most eight. -/
theorem txRequest_length_lt {q : List TxEntry} (kind : BitVec 5) (subject : Option Nat) (data : List Byte)
    (h : q.length < 7) : (txRequest q kind subject data).queue.length < 8 := by
  rcases txRequest_cases q kind subject data with ⟨-, hr⟩ | ⟨-, -, hr⟩ | ⟨-, hfull, -⟩ | ⟨-, hfull, -⟩
  · rw [hr]
    simp only [txReplace, List.length_map]
    omega
  · rw [hr, txPlace_length]
    omega
  · omega
  · omega

/-- The return stage that begins in STANDBY without a reason to keep awake lasts beyond what follows the command. -/
theorem State.beginReturn_finish {s : State} (hstate : s.pw.state = .standby) (hreason : awakeReason s = false) :
    s.beginReturn.finish.pw.returning = true ∧ s.beginReturn.finish.pw.keepAlive = none := by
  have hstays : awakeReason s.beginReturn = false := (awakeReason_congr (by simp) (by simp)).trans hreason
  have hreturning : s.beginReturn.pw.returning = true := by
    rw [State.beginReturn_eq]
    rfl
  have hkeep : keepAwake s.beginReturn = false := by
    unfold keepAwake
    rw [hstays, hreturning]
    rfl
  rw [State.finish_pw, hkeep, State.beginReturn_eq]
  simp [PowerUnit.settle, hstate]

/-- A reason to keep awake is one after what follows the command too. -/
theorem State.finish_awake {s : State} (h : keepAwake s = true) : keepAwake s.finish = true := by
  have hreason : awakeReason s.finish = awakeReason s := awakeReason_congr (by simp) (by rw [State.finish_warn]; rfl)
  have hpw : s.finish.pw = { s.pw with keepAlive := none, returning := false } := by
    rw [State.finish_pw, h, PowerUnit.settle_awake]
  have hdone : writesDone s.finish = writesDone s := writesDone_congr (by rw [hpw]) (by rw [hpw])
  unfold keepAwake at h ⊢
  rw [hreason, hdone, hpw]
  cases hr : awakeReason s
  · simp_all
  · rfl

/-- A timer that counts on below its period keeps its count, as long as no reason to keep awake comes. -/
theorem State.keepAliveSecond_finish_counts {s : State} {m : Nat} (hstate : s.pw.state = .standby)
    (hreturn : s.pw.returning = false) (htimer : s.pw.keepAlive = some m) (hlt : m + 1 < s.cal.keepAlive)
    (hawake : keepAwake s.keepAliveSecond.finish = false) :
    s.keepAliveSecond.finish.pw.keepAlive = some (m + 1) ∧ s.keepAliveSecond.finish.pw.returning = false := by
  cases hkeep : keepAwake s with
  | true =>
    rw [State.keepAliveSecond_awake hkeep, State.finish_awake] at hawake
    · exact absurd hawake (by decide)
    · rw [← hkeep]
      exact keepAwake_congr rfl rfl hreturn.symm rfl rfl
  | false =>
    have hstays : keepAwake (s.setPw { s.pw with keepAlive := some (m + 1) }) = false :=
      (keepAwake_congr rfl rfl rfl rfl rfl).trans hkeep
    rw [State.keepAliveSecond_counts hstate hreturn hkeep htimer hlt, State.finish_pw, hstays]
    simp [PowerUnit.settle, hstate, hreturn]

section
variable (s : State)

/-- The blocks after the second's work, the keep-alive timer, and what follows every command. -/
theorem State.secondTick_finish_blocks {u : State} (hu : u = s.secondWork.keepAliveSecond.finish) :
    (∃ lamps, u.warn = { s.secondWork.warn with lamps := lamps }) ∧
      u.pw = { s.pw with queue := s.secondWork.keepAliveSecond.pw.queue, keepAlive := u.pw.keepAlive,
                         returning := u.pw.returning } ∧
      u.readout = s.secondWork.readout ∧ u.service = s.secondWork.service ∧ u.trip = s.secondWork.trip ∧
      u.acc = s.secondWork.acc ∧ u.line = s.secondWork.line ∧ u.peer = s.secondWork.peer := by
  obtain ⟨queue, timer, stage, hkeep⟩ := s.secondWork.keepAliveSecond_parts
  obtain ⟨lamps, timer', stage', hfinish⟩ := s.secondWork.keepAliveSecond.finish_parts
  rw [hu, hfinish, hkeep]
  refine ⟨⟨lamps, rfl⟩, ?_, rfl, rfl, rfl, rfl, rfl, rfl⟩
  simp [s.secondWork_pw]

theorem State.secondTick_finish_frame {u : State} (hu : u = s.secondWork.keepAliveSecond.finish) :
    u.pins = s.pins ∧ u.mem = s.mem ∧ u.cal = s.cal ∧ u.sig = s.sig ∧ u.gauges = s.gauges ∧ u.chime = s.chime ∧
      u.pending = s.pending := by
  obtain ⟨queue, timer, stage, hkeep⟩ := s.secondWork.keepAliveSecond_parts
  obtain ⟨hsig, hcal, hpins, hmem, hgauges, hchime, hpending⟩ := s.secondWork_frame
  rw [hu, hkeep]
  simp [hsig, hcal, hpins, hmem, hgauges, hchime, hpending]

theorem State.secondWork_periodEnds_iff :
    s.secondWork.periodEnds ↔
      s.pw.state = .standby ∧ s.pw.returning = false ∧ awakeReason s = false ∧ s.secondWrites = [] ∧
        s.pw.writing = none ∧ s.cal.keepAlive ≤ s.pw.keepAlive.getD 0 + 1 := by
  obtain ⟨-, hcal, -⟩ := s.secondWork_frame
  unfold State.periodEnds
  rw [s.secondWork_awakeReason, hcal, s.secondWork_pw]

/-- The write queue that the end of the keep-alive period leaves where nothing waited. -/
theorem State.secondWork_ends (h : s.secondWork.periodEnds) :
    s.secondWork.keepAliveSecond.finish.pw.returning = true ∧ s.secondWork.keepAliveSecond.finish.pw.keepAlive = none ∧
      s.secondWork.keepAliveSecond.pw.queue =
        [{ key := .trip, data := tripWords s.trip },
         { key := .counters, data := countersWords s.hoursNext.2 s.readout.nextSecond.day }] ++
          (if s.secondWork.acc.odoUnknown then [] else [{ key := .odometer, data := slotWords s.acc.odo }]) := by
  obtain ⟨hstate, -, hreason, hqueue, -⟩ := id h
  have hstandby : s.pw.state = .standby := by rwa [s.secondWork_pw] at hstate
  obtain ⟨hreadout, hservice, htrip, -⟩ := s.secondWork_blocks
  obtain ⟨-, -, hhours⟩ := s.engineShare
  have hodo : s.secondWork.acc.odo = s.acc.odo := (congrArg Accum.odo s.secondWork_acc.1 :)
  have hkept : s.secondWork.trip = s.trip := by rw [htrip, if_neg (by simp [hstandby])]
  rw [State.keepAliveSecond_ends h]
  obtain ⟨hreturning, htimer⟩ := State.beginReturn_finish hstate hreason
  refine ⟨hreturning, htimer, ?_⟩
  rw [State.beginReturn_eq]
  dsimp only [State.setPw_pw]
  rw [hqueue, hkept, hreadout, hservice, hhours, hodo]
  split <;> rfl

end

/-- Settles O23: the shares of the blocks in their order, then the keep-alive timer, then what follows every command. -/
theorem oneSecondTick : Obligations.OneSecondTick := by
  unfold Obligations.OneSecondTick
  intro s now r running midnight hourStep timeout
  let t : State := s.setPw { s.pw with time := now, nextSecond := s.pw.nextSecond + 1000 }
  refine ⟨t.secondWork.keepAliveSecond.finish, rfl, ?_⟩
  generalize hu : t.secondWork.keepAliveSecond.finish = u
  obtain ⟨hreadout, hservice, htrip, hwarn⟩ := t.secondWork_blocks
  obtain ⟨hacc, htimer⟩ := t.secondWork_acc
  obtain ⟨hinbound, hstations⟩ := t.secondWork_line_peer
  obtain ⟨-, hseconds, hhours⟩ := t.engineShare
  obtain ⟨⟨lamps, huwarn⟩, hupw, hureadout, huservice, hutrip, huacc, huline, hupeer⟩ := t.secondTick_finish_blocks hu.symm
  obtain ⟨hpins, hmem, hcal, hsig, hgauges, hchime, hpending⟩ := t.secondTick_finish_frame hu.symm
  have hday : u.readout = r.nextSecond := hureadout.trans hreadout
  have hhour : u.service.hours = t.hoursNext.2 := by rw [huservice, hservice, hhours]
  have hends := t.secondWork_periodEnds_iff
  have hentries : ∀ n e, s.warn.entry n = some e → u.warn.entry n = some { e with mark := match e.mark with
      | some m => if m ≤ now then none else some m
      | none => none } := by
    intro n e he
    rw [WarnUnit.entry_of_table (w := s.warn.expireMarks now) _ n]
    · exact s.warn.entry_expireMarks now n he
    · rw [huwarn, hwarn, (WarnUnit.endLampTest_table _ _).1]
      rfl
  rw [huacc]
  refine ⟨(congrArg PowerUnit.time hupw :), (congrArg PowerUnit.nextSecond hupw :), (congrArg PowerUnit.state hupw :),
    (congrArg Readout.second hday :), (congrArg Readout.minute hday :), (congrArg Readout.hour hday :),
    (congrArg Readout.day hday :), (congrArg Readout.unset hday :), (congrArg Readout.message hday :), ?_,
    hutrip.trans htrip, fun n e he => ⟨_, hentries n e he, rfl⟩, ?_, htimer, (congrArg Accum.odo hacc :),
    (congrArg Accum.unknownCond hacc :), ?_, fun hroom => ?_, ⟨fun hwithin => ?_, fun hexpired => ?_⟩,
    fun m hstate hreturn hm hlt hawake => ?_,
    hpins, hmem, hcal, hsig, hgauges, hchime, (congrArg Line.inbound huline).trans hinbound,
    (congrArg Peer.stations hupeer).trans hstations, hpending⟩
  · rw [huservice, hservice, hseconds, hhours]
    rfl
  · rw [huwarn, hwarn]
    exact WarnUnit.endLampTest_lampTest _ _
  · rw [hday, hhour, huservice, hservice, t.engineShare_items]
    rfl
  · have hclock := State.clockSecond_tx (s := t) (Nat.lt_succ_of_lt hroom)
    have hbelow : t.clockSecond.line.tx.length < 8 := by
      rw [hclock]
      split
      · exact txRequest_length_lt _ _ _ hroom
      · exact Nat.lt_succ_of_lt hroom
    rw [huline, t.secondWork_tx hbelow, hclock, hday]
    rfl
  · rw [hday, hhour] at hwithin ⊢
    obtain ⟨timer, stage, hkeep⟩ := State.keepAliveSecond_within (fun h => hwithin (hends.mp h))
    rw [hupw, hkeep]
    show t.secondWork.pw.queue = _
    rw [t.secondWork_pw]
    rfl
  · rw [hday, hhour] at hexpired ⊢
    obtain ⟨hreturning, hkeepAlive, hqueue⟩ := t.secondWork_ends (hends.mpr hexpired)
    rw [hu] at hreturning hkeepAlive
    refine ⟨hreturning, hkeepAlive, ?_⟩
    rw [hupw, hqueue]
    rfl
  · rw [← hu] at hawake ⊢
    have hpw := t.secondWork_pw
    exact State.keepAliveSecond_finish_counts (by rw [hpw]; exact hstate) (by rw [hpw]; exact hreturn)
      (by rw [hpw]; exact hm) (by rw [t.secondWork_frame.2.1]; exact hlt) hawake

end Sys2Proof.Machine
end

section
/-! PROOFS. Frames on the line: laid out and read back (R145, R146), and what the receiver does with them (R147, R148, R152). -/

namespace Sys2Proof.Machine

/-! ## Bytes as levels (R145) -/

theorem byteOfLevels_byteLevels (b : Byte) : byteOfLevels (((byteLevels b).drop 1).take 8) = b := by
  revert b
  decide

theorem byteLevels_length (b : Byte) : (byteLevels b).length = 10 := rfl

theorem byteLevels_start_stop (b : Byte) (rest : List Bool) :
    (byteLevels b ++ rest).getD 0 true = false ∧ (byteLevels b ++ rest).getD 9 false = true := ⟨rfl, rfl⟩

theorem levels_length (bs : List Byte) : (bs.flatMap byteLevels).length = 10 * bs.length := by
  induction bs with
  | nil => rfl
  | cons b rest ih =>
    rw [List.flatMap_cons, List.length_append, byteLevels_length, ih, List.length_cons]
    omega

/-- The levels of the bytes from the `k`th on. -/
theorem levels_drop (bs : List Byte) (k : Nat) :
    (bs.flatMap byteLevels).drop (10 * k) = (bs.drop k).flatMap byteLevels := by
  induction k generalizing bs with
  | zero => rfl
  | succ k ih =>
    cases bs with
    | nil => simp
    | cons b rest =>
      rw [List.flatMap_cons, List.drop_succ_cons, ← ih rest, show 10 * (k + 1) = (byteLevels b).length + 10 * k from by
        rw [byteLevels_length]; omega, List.drop_append]
      simp

/-- A byte stands at its place in the levels. -/
theorem byteAtPlace_levels {bs : List Byte} {k : Nat} {b : Byte} (h : bs[k]? = some b) :
    byteAtPlace (bs.flatMap byteLevels) k = b := by
  have hdrop : bs.drop k = b :: bs.drop (k + 1) := by
    obtain ⟨hlt, hb⟩ := List.getElem?_eq_some_iff.mp h
    rw [← hb]
    exact List.drop_eq_getElem_cons hlt
  unfold byteAtPlace
  rw [← List.drop_drop, levels_drop, hdrop, List.flatMap_cons, List.drop_append_of_le_length (by simp [byteLevels_length]),
    List.take_append_of_le_length (by simp [byteLevels_length])]
  exact byteOfLevels_byteLevels b

theorem framingGood_levels (bs : List Byte) : framingGood (bs.flatMap byteLevels) bs.length = true := by
  unfold framingGood
  refine List.all_eq_true.mpr fun k hk => ?_
  have hlt : k < bs.length := List.mem_range.mp hk
  have hdrop : (bs.flatMap byteLevels).drop (10 * k) = byteLevels bs[k] ++ (bs.drop (k + 1)).flatMap byteLevels := by
    rw [levels_drop, List.drop_eq_getElem_cons hlt, List.flatMap_cons]
  have hat : ∀ (i : Nat) (d : Bool), (bs.flatMap byteLevels).getD (10 * k + i) d =
      ((bs.flatMap byteLevels).drop (10 * k)).getD i d := by
    intro i d
    rw [List.getD_eq_getElem?_getD, List.getD_eq_getElem?_getD, List.getElem?_drop]
  obtain ⟨hstart, hstop⟩ := byteLevels_start_stop bs[k] ((bs.drop (k + 1)).flatMap byteLevels)
  have h0 := hat 0 true
  have h9 := hat 9 false
  rw [hdrop, hstart] at h0
  rw [hdrop, hstop] at h9
  rw [Nat.add_zero] at h0
  rw [h0, h9]
  rfl

theorem map_byteAtPlace_levels (bs : List Byte) :
    (List.range bs.length).map (byteAtPlace (bs.flatMap byteLevels)) = bs := by
  refine List.ext_getElem (by simp) fun k h1 h2 => ?_
  rw [List.getElem_map, List.getElem_range]
  exact byteAtPlace_levels (List.getElem?_eq_getElem h2)

/-! ## A whole frame (R145, R146) -/

theorem frameBytes_length (prio : Nat) (f : Frame) : (frameBytes prio f).length = f.data.length + 3 := by
  simp [frameBytes, headerBytes]

theorem frameBytes_sum (prio : Nat) (f : Frame) : (frameBytes prio f).foldl (· + ·) 0#8 = 255#8 := by
  unfold frameBytes checkByte
  rw [List.foldl_append]
  show _ + (255#8 - _) = 255#8
  bv_omega

theorem headerKind (prio : BitVec 3) (kind : BitVec 5) : (prio ++ kind : Byte).truncate 5 = kind := by
  revert prio kind
  decide

theorem headerLength (source len : BitVec 4) : (source ++ len : Byte).toNat = source.toNat * 16 + len.toNat := by
  revert source len
  decide

/-- A frame of up to six data bytes is read back from its levels (R145, R146). -/
theorem readFrame_frameLevels (prio : Nat) {f : Frame} (hlen : f.data.length ≤ 6) :
    readFrame (frameLevels prio f) = .good f := by
  have hbytes := frameBytes_length prio f
  have hlevels : (frameLevels prio f).length = 10 * (f.data.length + 3) := by
    rw [frameLevels, levels_length, hbytes]
  have h1 : byteAtPlace (frameLevels prio f) 0 = BitVec.ofNat 3 prio ++ f.kind := byteAtPlace_levels rfl
  have h2 : byteAtPlace (frameLevels prio f) 1 = f.source ++ BitVec.ofNat 4 f.len := byteAtPlace_levels rfl
  have hcode : (f.source ++ BitVec.ofNat 4 f.len : Byte).toNat = f.source.toNat * 16 + f.data.length := by
    rw [headerLength, BitVec.toNat_ofNat, Nat.mod_eq_of_lt (show f.len < 2 ^ 4 by unfold Frame.len; omega)]
    rfl
  have hmod : (f.source.toNat * 16 + f.data.length) % 16 = f.data.length := by omega
  have hdiv : (f.source.toNat * 16 + f.data.length) / 16 = f.source.toNat := by omega
  have hall : (List.range (f.data.length + 3)).map (byteAtPlace (frameLevels prio f)) = frameBytes prio f := by
    rw [← hbytes]
    exact map_byteAtPlace_levels _
  have hframing : framingGood (frameLevels prio f) (f.data.length + 3) = true := by
    rw [← hbytes]
    exact framingGood_levels _
  unfold readFrame
  rw [if_neg (by omega)]
  dsimp only
  rw [h1, h2, hcode, hmod, if_neg (by omega), if_neg (by omega), hall, hframing, frameBytes_sum, headerKind, hdiv]
  have hdata : ((frameBytes prio f).drop 2).take f.data.length = f.data := by
    simp [frameBytes, headerBytes]
  rw [hdata, BitVec.ofNat_toNat, BitVec.setWidth_eq]
  rfl

/-- Settles O24: byte by byte, and the check byte makes the sum. -/
theorem frameRoundTrip : Obligations.FrameRoundTrip := by
  unfold Obligations.FrameRoundTrip
  intro prio f _ hlen
  refine ⟨readFrame_frameLevels prio hlen, ?_, frameBytes_sum prio f⟩
  rw [frameLevels, levels_length, frameBytes_length]

/-! ## The receiver (R146 to R148, R152, R155) -/

theorem receiverRuns_of {p : Power} (h : p ≠ .sleep) : receiverRuns p = true := by
  simpa [receiverRuns] using h

/-- The HOLD slot of a frame, by whether it reads dominant (R152). -/
theorem State.holdSlot_eq (s : State) (others : Bool) :
    s.holdSlot others =
      if s.line.holding || others then
        { s with line := { s.line with holdDriven := s.line.holding, pause := some (s.pw.time + 40) },
                 tally := { s.tally with holdsSeen := min (s.tally.holdsSeen + 1) 65535 } }
      else { s with line := { s.line with holdDriven := s.line.holding } } := rfl

/-- Settles O25: the readings of R146, each with what the receiver does at it. -/
theorem frameReceive : Obligations.FrameReceive := by
  unfold Obligations.FrameReceive
  intro s bits hold hstate hbits all slot busy counted
  have hexec : exec (.frameReceive bits hold) s =
      if s.line.rx = .waitIdle then done busy else done (busy.receiveBits all hold) :=
    if_pos ⟨receiverRuns_of hstate, hbits⟩
  refine ⟨fun hwait => by rw [hexec, if_pos hwait]; rfl, fun hrx => ?_⟩
  rw [hexec, if_neg hrx]
  unfold State.receiveBits
  refine ⟨fun h => ?_, fun h => ?_, fun h => ?_, ?_, fun f h hfull => ?_⟩
  · rw [h]
    rfl
  · rw [h]
    rfl
  · rw [h]
    dsimp only
    rw [State.holdSlot_eq]
    rfl
  · intro f h hroom holding
    rw [h]
    dsimp only
    rw [State.holdSlot_eq, State.storeFrame, if_pos (show busy.rxReady.line.inbound.length < inboundCapacity from hroom)]
    rfl
  · rw [h]
    dsimp only
    rw [State.holdSlot_eq, State.storeFrame,
      if_neg (show ¬ busy.rxReady.line.inbound.length < inboundCapacity from Nat.not_lt.mpr hfull)]
    rfl

/-! ## Line conditions (R152, R156, R157) -/

theorem txSending_eq_none {q : List TxEntry} (h : ∀ e ∈ q, e.sending = false) : txSending q = none :=
  List.find?_eq_none.mpr fun e he => by simp [h e he]

theorem State.endAttempt_idle {s : State} (h : ∀ e ∈ s.line.tx, e.sending = false) (ack : Bool) :
    s.endAttempt ack = s := by
  unfold State.endAttempt
  rw [txSending_eq_none h]

/-- Settles O28: each condition where its event occurs. -/
theorem lineConditions : Obligations.LineConditions := by
  unfold Obligations.LineConditions
  intro s
  refine ⟨fun t ht => ?_, ?_, fun hstate hfault => ?_, fun hstate => ?_⟩
  · show execHoldPauseEnd s = _
    simp only [execHoldPauseEnd, ht]
    rfl
  · intro hstate faulted
    have hexec : exec .lineFaultDetect s =
        .next (State.finish ((faulted s.line.breakOff).endAttempt false)) := if_pos (receiverRuns_of hstate)
    refine ⟨fun bits hbits => ?_, fun hrx => ?_⟩
    · rw [hexec, Line.breakOff, hbits]
      rfl
    · have hkept : s.line.breakOff = s.line := by
        obtain h | h := hrx <;> rw [Line.breakOff, h]
      rw [hexec, hkept]
      exact ⟨rfl, fun hidle => by rw [State.endAttempt_idle (s := faulted s.line) hidle]⟩
  · exact if_pos ⟨receiverRuns_of hstate, hfault⟩
  · have hexec : execLineIdle s = _ := if_pos (receiverRuns_of hstate)
    refine ⟨fun bits hbits => ?_, fun hrx => ?_⟩
    · show execLineIdle s = _
      rw [hexec]
      simp only [Line.breakOff, hbits]
      rfl
    · show execLineIdle s = _
      rw [hexec]
      obtain h | h := hrx <;> rw [h]
      · rfl
      · rfl

end Sys2Proof.Machine
end

section
/-! PROOFS. The transmitter: requests (R153, R154), attempts begun and ended (R149 to R151), and report sequences (R167). -/

namespace Sys2Proof.Machine

/-! ## Arbitration (R150) -/

/-- The others override the sender's recessive bit at a place. -/
def Overridden (own others : List Bool) (k : Nat) : Prop := own[k]? = some true ∧ others[k]? = some false

theorem overridden_cons_zero {o t : Bool} {own others : List Bool} :
    Overridden (o :: own) (t :: others) 0 ↔ (o && !t) = true := by
  simp [Overridden]

theorem firstOverridden_none_iff {own others : List Bool} {n : Nat} :
    firstOverridden own others n = none ↔ ∀ k, ¬ Overridden own others k := by
  induction own generalizing others n with
  | nil => simp [firstOverridden, Overridden]
  | cons o own ih =>
    cases others with
    | nil => simp [firstOverridden, Overridden]
    | cons t others =>
      unfold firstOverridden
      split
      · next h => exact iff_of_false (by simp) (fun hall => hall 0 (overridden_cons_zero.mpr h))
      · next h =>
        rw [ih]
        refine ⟨fun hall k => ?_, fun hall k => hall (k + 1)⟩
        cases k with
        | zero => exact fun h0 => h (overridden_cons_zero.mp h0)
        | succ k => exact hall k

/-- The place found is the first one overridden, counted from the start given. -/
theorem firstOverridden_some {own others : List Bool} {n k : Nat} (h : firstOverridden own others n = some k) :
    ∃ i, k = n + i ∧ Overridden own others i ∧ ∀ j, j < i → ¬ Overridden own others j := by
  induction own generalizing others n with
  | nil => simp [firstOverridden] at h
  | cons o own ih =>
    cases others with
    | nil => simp [firstOverridden] at h
    | cons t others =>
      unfold firstOverridden at h
      split at h
      · next h0 =>
        refine ⟨0, (Option.some.inj h).symm, overridden_cons_zero.mpr h0, fun j hj => absurd hj (Nat.not_lt_zero j)⟩
      · next h0 =>
        obtain ⟨i, hk, hi, hfirst⟩ := ih h
        refine ⟨i + 1, by omega, hi, fun j hj => ?_⟩
        cases j with
        | zero => exact fun hz => h0 (overridden_cons_zero.mp hz)
        | succ j => exact hfirst j (by omega)

theorem sendResult_sent_iff {own others : List Bool} :
    sendResult own others = .sent ↔ ∀ k, ¬ Overridden own others k := by
  rw [← firstOverridden_none_iff (n := 0)]
  unfold sendResult
  split
  · next h => exact iff_of_true rfl h
  · next k h =>
    refine iff_of_false ?_ (by rw [h]; simp)
    split <;> simp

theorem sendResult_lost_iff {own others : List Bool} :
    sendResult own others = .arbitrationLost ↔ ∃ k, k ≤ 14 ∧ Overridden own others k := by
  unfold sendResult
  split
  · next h =>
    refine iff_of_false (by simp) ?_
    rintro ⟨k, -, hk⟩
    exact firstOverridden_none_iff.mp h k hk
  · next k h =>
    obtain ⟨i, hi, hover, hfirst⟩ := firstOverridden_some h
    obtain rfl : k = i := by omega
    split
    · next hle => exact iff_of_true rfl ⟨k, hle, hover⟩
    · next hgt =>
      refine iff_of_false (by simp) ?_
      rintro ⟨j, hj, hover'⟩
      exact hfirst j (by unfold arbitrationEnd at hgt; omega) hover'

theorem overridden_lt {own others : List Bool} {k : Nat} (h : Overridden own others k) :
    k < own.length ∧ k < others.length := by
  obtain ⟨⟨h1, -⟩, ⟨h2, -⟩⟩ := And.intro (List.getElem?_eq_some_iff.mp h.1) (List.getElem?_eq_some_iff.mp h.2)
  exact ⟨h1, h2⟩

/-! ## FRAME_BEGIN (R149) -/

theorem pauseRuns_eq_false {s : State} (h : ∀ t, s.line.pause = some t → t ≤ s.pw.time) : pauseRuns s = false := by
  unfold pauseRuns
  split
  · next t ht => exact decide_eq_false (Nat.not_lt.mpr (h t ht))
  · rfl

theorem mayBegin_head {s : State} {e : TxEntry} {rest : List TxEntry} (hruns : dispatcherRuns s.pw.state = true)
    (hfault : s.line.fault = false) (hidle : s.line.idle = true) (htx : s.line.tx = e :: rest)
    (hnone : ∀ x ∈ e :: rest, x.sending = false)
    (hprio : priorityOf e.kind ≤ 3 ∨ ∀ t, s.line.pause = some t → t ≤ s.pw.time) : mayBegin s = some e := by
  have hsending : txSending s.line.tx = none := by
    rw [htx]
    exact txSending_eq_none hnone
  unfold mayBegin
  rw [if_pos (by simp [hruns, hfault, hidle, hsending]), htx]
  exact if_pos (hprio.imp_right pauseRuns_eq_false)

/-- An entry sent and stayed is the entry as it was, with its replacement as its data. -/
theorem txLost_begun {e : TxEntry} {rest : List TxEntry} (he : e.sending = false)
    (hnone : ∀ x ∈ rest, x.sending = false) :
    txLost ({ e with sending := true } :: rest) =
      { e with data := e.replacement.getD e.data, replacement := none } :: rest := by
  unfold txLost
  rw [List.map_cons]
  congr 1
  · cases e
    cases he
    rfl
  exact (List.map_congr_left fun x hx => by rw [if_neg (by simp [hnone x hx])]).trans (List.map_id' rest)

/-- Settles O26: the head entry is begun, and the outcome follows the first bit overridden. -/
theorem frameBegin : Obligations.FrameBegin := by
  unfold Obligations.FrameBegin
  intro s e rest others hstate hfault hidle htx hnone hprio own begun
  have hmay := mayBegin_head ((dispatcherRuns_iff _).mpr hstate) hfault hidle htx hnone hprio
  have hbegin : txBegin s.line.tx = { e with sending := true } :: rest := by
    rw [htx]
    rfl
  have hexec : exec (.frameBegin others) s =
      match sendResult own others with
      | .sent => done begun
      | .arbitrationLost => done (begun.setLine { begun.line with tx := txLost begun.line.tx })
      | .bitError => done (begun.endAttempt false) := by
    show execFrameBegin others s = _
    simp only [execFrameBegin, hmay, hbegin]
    rfl
  have hkept : e.sending = false := hnone e List.mem_cons_self
  have hlost : txLost begun.line.tx =
      { e with data := e.replacement.getD e.data, replacement := none } :: rest :=
    txLost_begun hkept fun x hx => hnone x (List.mem_cons_of_mem _ hx)
  refine ⟨fun h => by rw [hexec, h]; rfl, fun h => by rw [hexec, h, hlost]; rfl, fun h => by rw [hexec, h]; rfl, ?_, ?_⟩
  · rw [sendResult_sent_iff]
    refine ⟨fun hall k hover => ?_, fun hall k h1 h2 htrue => ?_⟩
    · obtain ⟨h1, h2⟩ := overridden_lt hover
      exact absurd ((hall k h1 h2 hover.1).symm.trans hover.2) (by decide)
    · cases hval : others[k]'h2 with
      | true => rw [List.getElem?_eq_getElem h2, hval]
      | false => exact absurd ⟨htrue, by rw [List.getElem?_eq_getElem h2, hval]⟩ (hall k)
  · rw [sendResult_lost_iff]
    exact ⟨fun ⟨k, hle, hover⟩ => ⟨k, hle, (overridden_lt hover).1, hover⟩,
      fun ⟨k, hle, _, hover⟩ => ⟨k, hle, hover⟩⟩

/-! ## ATTEMPT_END (R151, R152) -/

/-- An attempt's end without a replacement takes the entry in transmission out. -/
theorem txRemove_plain {q : List TxEntry} {e : TxEntry} (h : q.find? (fun x => x.sending) = some e)
    (hplain : e.replacement = none) : txRemove q = q.filter (fun x => !x.sending) := by
  have hsending : txSending q = some e := h
  simp only [txRemove, hsending, hplain]

/-- A replacement becomes the newest entry of its priority. -/
theorem txRemove_replaced {q : List TxEntry} {e : TxEntry} {d : List Byte} (h : q.find? (fun x => x.sending) = some e)
    (hnew : e.replacement = some d) :
    txRemove q = txPlace (TxEntry.new e.kind e.subject d) (q.filter (fun x => !x.sending)) := by
  have hsending : txSending q = some e := h
  simp only [txRemove, hsending, hnew]

section
variable {s : State} {e : TxEntry} {ack : Bool}

theorem State.endAttempt_gone (h : txSending s.line.tx = some e) (hgone : ack = true ∨ e.kind = kindStatus) :
    s.endAttempt ack = (s.setLine { s.line with tx := txRemove s.line.tx }).departure e.kind := by
  unfold State.endAttempt
  rw [h]
  exact if_pos (by simpa using hgone)

theorem State.endAttempt_kept (h : txSending s.line.tx = some e) (hack : ack = false) (hkind : e.kind ≠ kindStatus)
    (hlt : e.attempts + 1 < 3) : s.endAttempt ack = s.setLine { s.line with tx := txKeep s.line.tx } := by
  unfold State.endAttempt
  rw [h]
  dsimp only
  rw [if_neg (by simp [hack, hkind]), if_pos hlt]

theorem State.endAttempt_undelivered (h : txSending s.line.tx = some e) (hack : ack = false) (hkind : e.kind ≠ kindStatus)
    (hle : 3 ≤ e.attempts + 1) :
    s.endAttempt ack =
      State.departure { s with
        line := { s.line with tx := txRemove s.line.tx }
        tally := { s.tally with undelivered := min (s.tally.undelivered + 1) 65535 } } e.kind := by
  unfold State.endAttempt
  rw [h]
  dsimp only
  rw [if_neg (by simp [hack, hkind]), if_neg (Nat.not_lt.mpr hle)]
  rfl

end

/-! ## Report sequences (R167) -/

theorem State.departure_other (s : State) {kind : BitVec 5} (h : kind ≠ kindTallyReport) : s.departure kind = s := if_neg h

theorem State.departure_report (s : State) : s.departure kindTallyReport = sendReports s.peer.report.tail s := if_pos rfl

theorem priorityOf_le (kind : BitVec 5) : priorityOf kind ≤ 7 := by
  revert kind
  decide

/-- A full queue without an entry of the key neither has room nor holds the key. -/
theorem not_full_keyless {q : List TxEntry} {kind : BitVec 5} {subject : Option Nat}
    (hno : q.any (fun e => e.hasKey kind subject) = false) (hfull : 8 ≤ q.length) :
    ¬ (q.length < 8 ∨ ∃ x ∈ q, x.kind = kind ∧ x.subject = subject) := by
  rintro (hroom | ⟨x, hx, hkind, hsubject⟩)
  · omega
  · exact List.any_eq_false.mp hno x hx (by simp [TxEntry.hasKey, hkind, hsubject])

theorem txRequest_departed_none {q : List TxEntry} {kind : BitVec 5} {subject : Option Nat} (data : List Byte)
    (h : q.length < 8 ∨ ∃ x ∈ q, x.kind = kind ∧ x.subject = subject) :
    (txRequest q kind subject data).departed = none ∧ (txRequest q kind subject data).dropped = false := by
  rcases txRequest_cases q kind subject data with ⟨-, hr⟩ | ⟨-, -, hr⟩ | ⟨hno, hfull, -⟩ | ⟨hno, hfull, -⟩
  · rw [hr]
    exact ⟨rfl, rfl⟩
  · rw [hr]
    exact ⟨rfl, rfl⟩
  · exact absurd h (not_full_keyless hno hfull)
  · exact absurd h (not_full_keyless hno hfull)

/-- A report part has the worst priority: at a full queue without its key it is refused. -/
theorem txRequest_report_refused {q : List TxEntry} {n : Nat} (data : List Byte) (hfull : 8 ≤ q.length)
    (hno : ∀ x ∈ q, ¬ (x.kind = kindTallyReport ∧ x.subject = some n)) :
    txRequest q kindTallyReport (some n) data = { queue := q, departed := some kindTallyReport, dropped := true } := by
  rcases txRequest_cases q kindTallyReport (some n) data with ⟨hany, -⟩ | ⟨-, hroom, -⟩ | ⟨-, -, w, -, hlt, -⟩ | ⟨-, -, hr⟩
  · obtain ⟨x, hx, hkey⟩ := List.any_eq_true.mp hany
    exact absurd (by simpa [TxEntry.hasKey] using hkey) (hno x hx)
  · omega
  · exact absurd hlt (Nat.not_lt.mpr (priorityOf_le w.kind))
  · exact hr

theorem sendReports_queued_part {s : State} {n part : Nat} (more : List (Nat × Nat))
    (h : s.line.tx.length < 8 ∨ ∃ x ∈ s.line.tx, x.kind = kindTallyReport ∧ x.subject = some n) :
    sendReports ((n, part) :: more) s =
      { s with
        line := { s.line with
          tx := (txRequest s.line.tx kindTallyReport (some n) (reportData s.peer.snapshot n part)).queue }
        peer := { s.peer with report := (n, part) :: more } } := by
  obtain ⟨hdeparted, hdropped⟩ := txRequest_departed_none (reportData s.peer.snapshot n part) h
  unfold sendReports
  dsimp only
  rw [hdeparted, State.queueFrame, hdropped]
  rfl

theorem sendReports_refused_part {s : State} {n part : Nat} (more : List (Nat × Nat)) (hfull : 8 ≤ s.line.tx.length)
    (hno : ∀ x ∈ s.line.tx, ¬ (x.kind = kindTallyReport ∧ x.subject = some n)) :
    sendReports ((n, part) :: more) s =
      sendReports more { s with tally := { s.tally with txDropped := min (s.tally.txDropped + 1) 65535 } } := by
  have hrefused := txRequest_report_refused (reportData s.peer.snapshot n part) hfull hno
  rw [sendReports.eq_def]
  dsimp only
  rw [hrefused]
  rfl

theorem byteOf_zero (v : Nat) : byteOf v 0 = BitVec.ofNat 8 v := by simp [byteOf]

theorem byteOf_one (v : Nat) : byteOf v 1 = BitVec.ofNat 8 (v / 256) := by simp [byteOf]

/-- Settles O27: the HOLD slot, then the entry's outcome; a report sequence by its next part. -/
theorem attemptEnd : Obligations.AttemptEnd := by
  unfold Obligations.AttemptEnd
  intro s e ack hold hstate hsending paused tally removed
  have hremoved : txRemove s.line.tx = removed := by
    cases hrep : e.replacement with
    | none => simp only [removed, hrep, txRemove_plain hsending hrep]
    | some d =>
      simp only [removed, hrep, txRemove_replaced hsending hrep]
      rfl
  have hexec : exec (.attemptEnd ack hold) s = done (State.endAttempt { s with line := paused, tally := tally } ack) := by
    have hslot : (s.setLine { s.line with ackDriven := false }).holdSlot hold = { s with line := paused, tally := tally } := by
      rw [State.holdSlot_eq]
      show (if s.line.holding || hold then _ else _) = _
      cases hpause : (s.line.holding || hold) <;> simp only [paused, tally, hpause] <;> rfl
    have hsome : (txSending s.line.tx).isSome = true := by
      show (s.line.tx.find? fun x => x.sending).isSome = true
      rw [hsending]
      rfl
    rw [← hslot]
    exact if_pos ⟨hsome, (dispatcherRuns_iff _).mpr hstate⟩
  have hheld : txSending ({ s with line := paused, tally := tally } : State).line.tx = some e := hsending
  refine ⟨fun hgone => ?_, fun hack hkind hlt => ?_, fun hack hkind hle => ?_, fun u k hk => u.departure_other hk,
    fun u => ⟨fun hlen => ?_, fun last n part rest hreport => ?_⟩,
    fun u n part more => ⟨sendReports_queued_part more, sendReports_refused_part more⟩, fun u => rfl, fun snap => ?_⟩
  · rw [hexec, State.endAttempt_gone hheld hgone, ← hremoved]
    rfl
  · rw [hexec, State.endAttempt_kept hheld hack hkind hlt]
    rfl
  · rw [hexec, State.endAttempt_undelivered hheld hack hkind hle, ← hremoved]
    rfl
  · rw [State.departure_report]
    have hnil : u.peer.report.tail = [] := List.eq_nil_of_length_eq_zero (by rw [List.length_tail]; omega)
    rw [hnil]
    rfl
  · rw [State.departure_report, hreport]
    rfl
  · intro low high o
    refine ⟨fun n r hn hr => ?_, ?_, ?_, ?_, ?_⟩
    · have hrow : snap.stations.getD n StationTallies.zero = r := by rw [List.getD_eq_getElem?_getD, hr, Option.getD_some]
      constructor <;> simp [reportData, reportHead, twoBytes, byteOf_zero, byteOf_one, hn, hr, low, high]
    all_goals simp [reportData, reportHead, twoBytes, byteOf_zero, byteOf_one, low, high, o]

end Sys2Proof.Machine
end

section
/-! PROOFS. A request to send, by key, by room and by priority (R153, R154). -/

namespace Sys2Proof.Machine

section
variable {q : List TxEntry} {kind : BitVec 5} {subject : Option Nat}

theorem any_hasKey_iff :
    q.any (fun e => e.hasKey kind subject) = true ↔ ∃ e ∈ q, e.kind = kind ∧ e.subject = subject := by
  simp [TxEntry.hasKey]

theorem any_hasKey_eq_false (h : ∀ e ∈ q, ¬ (e.kind = kind ∧ e.subject = subject)) :
    q.any (fun e => e.hasKey kind subject) = false := by
  rw [Bool.eq_false_iff, ne_eq, any_hasKey_iff]
  exact fun ⟨e, he, hkey⟩ => h e he hkey

theorem txRequest_held (data : List Byte) (h : ∃ e ∈ q, e.kind = kind ∧ e.subject = subject) :
    txRequest q kind subject data = { queue := txReplace q kind subject data, departed := none, dropped := false } := by
  unfold txRequest
  exact if_pos (any_hasKey_iff.mpr h)

theorem txRequest_room (data : List Byte) (hno : ∀ e ∈ q, ¬ (e.kind = kind ∧ e.subject = subject)) (hroom : q.length < 8) :
    txRequest q kind subject data =
      { queue := txPlace (TxEntry.new kind subject data) q, departed := none, dropped := false } := by
  unfold txRequest
  rw [any_hasKey_eq_false hno]
  exact if_pos hroom

theorem txRequest_displaced (data : List Byte) (hno : ∀ e ∈ q, ¬ (e.kind = kind ∧ e.subject = subject))
    (hfull : 8 ≤ q.length) {w : TxEntry} (hw : txWorst q = some w) (hlt : priorityOf kind < priorityOf w.kind) :
    txRequest q kind subject data =
      { queue := txPlace (TxEntry.new kind subject data) (txWithout q w.kind w.subject),
        departed := some w.kind, dropped := true } := by
  unfold txRequest
  rw [any_hasKey_eq_false hno, if_neg (by decide), if_neg (show ¬ q.length < txCapacity from Nat.not_lt.mpr hfull), hw]
  exact if_pos hlt

theorem txRequest_refused (data : List Byte) (hno : ∀ e ∈ q, ¬ (e.kind = kind ∧ e.subject = subject))
    (hfull : 8 ≤ q.length) (hbetter : ∀ e ∈ q, e.sending = false → priorityOf e.kind ≤ priorityOf kind) :
    txRequest q kind subject data = { queue := q, departed := some kind, dropped := true } := by
  unfold txRequest
  rw [any_hasKey_eq_false hno, if_neg (by decide), if_neg (show ¬ q.length < txCapacity from Nat.not_lt.mpr hfull)]
  split
  · rfl
  · next w hw =>
    obtain ⟨hmem, hwaits⟩ := txWorst_mem hw
    exact if_neg (Nat.not_lt.mpr (hbetter w hmem hwaits))

theorem txReplace_eq (data : List Byte) :
    txReplace q kind subject data = q.map (fun e =>
      if e.kind = kind ∧ e.subject = subject then
        (if e.sending then { e with replacement := some data } else { e with data := data })
      else e) := by
  unfold txReplace TxEntry.hasKey TxEntry.take
  refine List.map_congr_left fun e _ => ?_
  simp only [Bool.and_eq_true, beq_iff_eq]

end

/-- An entry is placed behind every entry of the same or better priority (R153). -/
theorem txPlace_split (e : TxEntry) {q : List TxEntry} (h : q.Pairwise (fun x y => priorityOf x.kind ≤ priorityOf y.kind)) :
    ∃ front back, q = front ++ back ∧ txPlace e q = front ++ e :: back ∧
      (∀ x ∈ front, priorityOf x.kind ≤ priorityOf e.kind) ∧ ∀ x ∈ back, priorityOf e.kind < priorityOf x.kind := by
  induction q with
  | nil => exact ⟨[], [], rfl, rfl, by simp, by simp⟩
  | cons x rest ih =>
    obtain ⟨hx, hrest⟩ := List.pairwise_cons.mp h
    unfold txPlace
    split
    · next hlt =>
      refine ⟨[], x :: rest, rfl, rfl, by simp, fun y hy => ?_⟩
      obtain rfl | hy := List.mem_cons.mp hy
      · exact hlt
      · exact hlt.trans_le (hx y hy)
    · next hge =>
      obtain ⟨front, back, hq, hplace, hfront, hback⟩ := ih hrest
      refine ⟨x :: front, back, by rw [hq]; rfl, by rw [hplace]; rfl, fun y hy => ?_, hback⟩
      obtain rfl | hy := List.mem_cons.mp hy
      · exact Nat.le_of_not_lt hge
      · exact hfront y hy

/-- The worst waiting entry stands behind every other waiting one (R154). -/
theorem txWorst_split {q : List TxEntry} {w : TxEntry} (h : txWorst q = some w) :
    ∃ front back, q = front ++ w :: back ∧ ∀ e ∈ back, e.sending = true := by
  induction q using List.reverseRecOn with
  | nil => simp [txWorst] at h
  | append_singleton q x ih =>
    unfold txWorst at h
    rw [List.filter_append] at h
    cases hx : x.sending with
    | false =>
      obtain rfl : x = w := by simpa [hx] using h
      exact ⟨q, [], rfl, by simp⟩
    | true =>
      obtain ⟨front, back, hq, hback⟩ := ih (by simpa [txWorst, hx] using h)
      refine ⟨front, back ++ [x], by rw [hq]; simp, fun e he => ?_⟩
      obtain he | he := List.mem_append.mp he
      · exact hback e he
      · rwa [List.mem_singleton.mp he]

/-- Where every key stands once, taking an entry's key out takes that entry alone. -/
theorem txWithout_split {front back : List TxEntry} {w : TxEntry} (hwaits : w.sending = false)
    (hkeys : ((front ++ w :: back).map TxEntry.key).Nodup) :
    txWithout (front ++ w :: back) w.kind w.subject = front ++ back := by
  have hother : ∀ x ∈ front ++ back, (!(x.hasKey w.kind w.subject && !x.sending)) = true := by
    intro x hx
    have hne : x.key ≠ w.key := by
      have hperm : ((w :: (front ++ back)).map TxEntry.key).Nodup :=
        (List.perm_middle.map TxEntry.key).nodup_iff.mp hkeys
      rw [List.map_cons, List.nodup_cons] at hperm
      exact fun heq => hperm.1 (heq ▸ List.mem_map_of_mem hx)
    have hkey : x.hasKey w.kind w.subject = false := by
      rw [Bool.eq_false_iff, ne_eq, TxEntry.hasKey_iff]
      exact hne
    simp [hkey]
  have hself : (!(w.hasKey w.kind w.subject && !w.sending)) = false := by
    have hkey : w.hasKey w.kind w.subject = true := (TxEntry.hasKey_iff _ _ _).mpr rfl
    simp [hkey, hwaits]
  unfold txWithout
  rw [List.filter_append, List.filter_cons_of_neg (by rw [hself]; decide), ← List.filter_append]
  exact List.filter_eq_self.mpr hother

/-- Settles O29: by the key, the room and the worst waiting entry. -/
theorem transmitRequest : Obligations.TransmitRequest := by
  unfold Obligations.TransmitRequest
  intro q kind subject data hsorted fresh r
  refine ⟨fun hheld => ?_, fun hno hroom => ?_, fun hno hfull hbetter => txRequest_refused data hno hfull hbetter,
    fun hno hfull hkeys hworse => ?_⟩
  · have hr := txRequest_held data hheld
    exact ⟨congrArg TxResult.departed hr, congrArg TxResult.dropped hr,
      (congrArg TxResult.queue hr).trans (txReplace_eq data)⟩
  · have hr := txRequest_room data hno hroom
    obtain ⟨front, back, hq, hplace, hfront, hback⟩ := txPlace_split fresh hsorted
    exact ⟨congrArg TxResult.departed hr, congrArg TxResult.dropped hr, front, back, hq,
      (congrArg TxResult.queue hr).trans hplace, hfront, hback⟩
  · obtain ⟨e, he, hwaits, hlt⟩ := hworse
    obtain ⟨w, hw⟩ : ∃ w, txWorst q = some w := by
      cases hw : txWorst q with
      | some w => exact ⟨w, rfl⟩
      | none =>
        have hnil := List.getLast?_eq_none_iff.mp hw
        have hin : e ∈ q.filter (fun e => !e.sending) := List.mem_filter.mpr ⟨he, by simp [hwaits]⟩
        rw [hnil] at hin
        exact absurd hin List.not_mem_nil
    obtain ⟨front, back, hq, hback⟩ := txWorst_split hw
    obtain ⟨-, hwwaits⟩ := txWorst_mem hw
    have hle : priorityOf e.kind ≤ priorityOf w.kind := by
      rw [hq] at he hsorted
      obtain hfront | hrest := List.mem_append.mp he
      · exact (List.pairwise_append.mp hsorted).2.2 e hfront w List.mem_cons_self
      · obtain rfl | hin := List.mem_cons.mp hrest
        · exact le_refl _
        · exact absurd (hback e hin) (by simp [hwaits])
    have hr := txRequest_displaced data hno hfull hw (hlt.trans_le hle)
    have hwithout : txWithout q w.kind w.subject = front ++ back := by
      rw [hq] at hkeys ⊢
      exact txWithout_split hwwaits hkeys
    refine ⟨congrArg TxResult.dropped hr, front, w, back, hq, hwwaits, hback, congrArg TxResult.departed hr, ?_, ?_⟩
    · rw [show r.queue = _ from congrArg TxResult.queue hr, hwithout]
      exact txPlace_perm fresh _
    · rw [show r.queue = _ from congrArg TxResult.queue hr]
      exact txPlace_sorted (hsorted.sublist List.filter_sublist)

end Sys2Proof.Machine
end

section
/-! PROOFS. Frames the Dispatcher takes without effect (R1, R3, R5, R9, R10, R138), WARN ACK (R95), CAL WRITE (R181) and the
TEST frames (R175). -/

namespace Sys2Proof.Machine

/-! ## Taking a frame (R1 to R3) -/

/-- In LOAD, STABILISE and SLEEP the Dispatcher takes nothing. -/
theorem takeFrame_stopped {accepts : Frame → Bool} {apply : State → Stored → State} {s : State}
    (h : s.pw.state = .load ∨ s.pw.state = .stabilise ∨ s.pw.state = .sleep) : takeFrame accepts apply s = .next s := by
  have hstopped : dispatcherRuns s.pw.state = false := by
    obtain h | h | h := h <;> rw [h] <;> rfl
  unfold takeFrame
  rw [hstopped]
  rfl

/-- The state with its oldest frame taken (R2, R155). -/
def State.taken (s : State) (rest : List Stored) : State :=
  { s with line := { s.line with
      inbound := rest, holding := if rest.length ≤ s.line.resume then false else s.line.holding } }

section
variable {s : State} {f : Stored} {rest : List Stored} {accepts : Frame → Bool} {apply : State → Stored → State}

theorem takeFrame_applied (hstate : s.pw.state = .standby ∨ s.pw.state = .active ∨ s.pw.state = .crank)
    (hq : s.line.inbound = f :: rest) (hacc : accepts f.frame = true) :
    takeFrame accepts apply s = .next (apply (s.taken rest) f).finish :=
  takeFrame_taken ((dispatcherRuns_iff _).mpr hstate) hq hacc

theorem ofKind_of {k : BitVec 5} (h : f.frame.kind = k) : ofKind k f.frame = true := by simp [ofKind, h]

/-- A frame that is taken and has no effect. -/
theorem takeFrame_removed (hstate : s.pw.state = .standby ∨ s.pw.state = .active ∨ s.pw.state = .crank)
    (hq : s.line.inbound = f :: rest) (hacc : accepts f.frame = true) (happly : apply (s.taken rest) f = s.taken rest) :
    takeFrame accepts apply s = .next (s.taken rest).finish := by
  rw [takeFrame_applied hstate hq hacc, happly]

end

/-! ## KEY frames (R138) -/

theorem roleNamed_iff {r : Role} {target : Nat} :
    roleNamed r target = true ↔ target = 2 ∨ (target = 0 ∧ r = .front) ∨ (target = 1 ∧ r = .rear) := by
  cases r <;> simp [roleNamed]

theorem isRepeat_iff {last : Option KeyRecord} {r : KeyRecord} :
    isRepeat last r = true ↔
      ∃ l, last = some l ∧ l.source = r.source ∧ l.target = r.target ∧ l.code = r.code ∧ l.arg = r.arg ∧
        r.arrival < l.arrival + 60 := by
  cases last <;> simp [isRepeat, and_assoc]

theorem namesKey_iff {f : Frame} :
    namesKey f = true ↔ 3 ≤ f.data.length ∧ 1 ≤ (f.byte 2).toNat ∧ (f.byte 2).toNat ≤ 10 := by
  unfold namesKey Frame.len
  rw [Bool.and_eq_true, decide_eq_true_iff, decide_eq_true_iff]

theorem ofKey_code {code : Nat} {f : Frame} (hkind : f.kind = 3#5) (hcode : (f.byte 2).toNat = code) :
    ofKey code f = true := by
  simp [ofKey, kindKey, hkind, hcode]

theorem ofKey_unnamed {code : Nat} {f : Frame} (hkind : f.kind = 3#5)
    (h : f.data.length < 3 ∨ (f.byte 2).toNat = 0 ∨ 10 < (f.byte 2).toNat) : ofKey code f = true := by
  have hnot : namesKey f = false := by
    rw [Bool.eq_false_iff, ne_eq, namesKey_iff]
    omega
  simp [ofKey, kindKey, hkind, hnot]

/-- The KEY frame repeats the last one taken within 60 ms (R138). -/
def KeyRepeats (last : Option KeyRecord) (f : Stored) : Prop :=
  ∃ l, last = some l ∧ l.source = f.frame.source ∧ l.target = f.frame.byte 1 ∧ l.code = f.frame.byte 2 ∧
    l.arg = f.frame.byte 3 ∧ f.arrival < l.arrival + 60

section
variable {s : State} {f : Stored} {key : State → State}

theorem State.keyFrame_unnamed (h : f.frame.data.length < 3 ∨ (f.frame.byte 2).toNat = 0 ∨ 10 < (f.frame.byte 2).toNat) :
    s.keyFrame f key = s :=
  if_neg fun hand => by
    have := namesKey_iff.mp hand.1
    omega

theorem State.keyFrame_otherRole (h : ¬ roleNamed s.pw.role (f.frame.byte 1).toNat = true) : s.keyFrame f key = s :=
  if_neg fun hand => h hand.2

theorem State.keyFrame_repeat (h : KeyRepeats s.readout.lastKey f) : s.keyFrame f key = s := by
  unfold State.keyFrame
  split
  · exact if_pos ((isRepeat_iff (r := keyRecord f)).mpr h)
  · rfl

/-- A KEY frame for this role that names a key and repeats none is recorded and treated by its key. -/
theorem State.keyFrame_recorded (hlen : 3 ≤ f.frame.data.length) (hlow : 1 ≤ (f.frame.byte 2).toNat)
    (hhigh : (f.frame.byte 2).toNat ≤ 10) (hrole : roleNamed s.pw.role (f.frame.byte 1).toNat = true)
    (hnew : ¬ KeyRepeats s.readout.lastKey f) :
    s.keyFrame f key = key (s.setReadout { s.readout with lastKey := some (keyRecord f) }) := by
  unfold State.keyFrame
  rw [if_pos ⟨namesKey_iff.mpr ⟨hlen, hlow, hhigh⟩, hrole⟩]
  exact if_neg fun h => hnew ((isRepeat_iff (r := keyRecord f)).mp h)

end

/-! ## Signal frames without effect (R5, R9, R10) -/

theorem signalVerdict_discard {h : SigHeader} {required : Nat} {absent : Bool} {f : Frame}
    (hdiscard : f.data.length < required ∨ absent = true) : signalVerdict h required absent f = .discard := by
  unfold signalVerdict
  by_cases hlen : f.len < required
  · exact if_pos hlen
  · rw [if_neg hlen]
    exact if_pos (hdiscard.resolve_left hlen)

theorem signalVerdict_foreign {h : SigHeader} {required : Nat} {f : Frame} (hlen : required ≤ f.data.length)
    (hheld : h.fresh.held = true) (hbound : h.bound ≠ some f.source) : signalVerdict h required false f = .foreign := by
  unfold signalVerdict
  rw [if_neg (show ¬ f.len < required from Nat.not_lt.mpr hlen), if_neg (by decide), if_neg (by simp [hheld]), if_neg hbound]

theorem State.signalFrame_discarded {s : State} {k : SignalKind} {f : Stored}
    (h : f.frame.data.length < requiredLength k ∨ (s.peer.station f.frame.source).state = .absent) :
    s.signalFrame k f = s := by
  unfold State.signalFrame
  rw [signalVerdict_discard (h.imp_right fun habsent => by simpa [Peer.isAbsent] using habsent)]

theorem State.signalFrame_foreign {s : State} {k : SignalKind} {f : Stored}
    (hlen : requiredLength k ≤ f.frame.data.length) (hstation : (s.peer.station f.frame.source).state ≠ .absent)
    (hheld : (s.sig.hdr k).fresh = .fresh ∨ (s.sig.hdr k).fresh = .stale)
    (hbound : (s.sig.hdr k).bound ≠ some f.frame.source) :
    s.signalFrame k f = s.setTally { s.tally with foreignFrames := min (s.tally.foreignFrames + 1) 65535 } := by
  have hpresent : s.peer.isAbsent f.frame.source = false := by simpa [Peer.isAbsent] using hstation
  unfold State.signalFrame
  rw [hpresent, signalVerdict_foreign hlen ((Freshness.held_iff _).mpr hheld) hbound]
  rfl

/-- Each signal command takes the frames of its kind. -/
theorem exec_signal {k : SignalKind} {c : Instr} {kind : BitVec 5} (s : State)
    (h : (k, c, kind) ∈ [(SignalKind.engine, Instr.engine, 1#5), (.chassis, .chassis, 2#5), (.body, .body, 5#5),
                         (.fuelLevel, .fuelLevel, 6#5)]) :
    exec c s = takeFrame (ofKind kind) (fun s f => s.signalFrame k f) s := by
  simp only [List.mem_cons, List.not_mem_nil, or_false, Prod.mk.injEq] at h
  obtain ⟨rfl, rfl, rfl⟩ | ⟨rfl, rfl, rfl⟩ | ⟨rfl, rfl, rfl⟩ | ⟨rfl, rfl, rfl⟩ := h <;> rfl

/-- The treatment of each key, by its code (R133, R137 to R139, R141, R93, R123, R86). -/
def keyEffect (code : Nat) (f : Stored) : State → State :=
  match code with
  | 1 => State.pageNextKey
  | 2 => State.pageBackKey
  | 3 => State.tripSelectKey
  | 4 => State.tripResetKey
  | 5 => State.odoSelectKey
  | 6 => State.acknowledgeKey
  | 7 => State.hourKey
  | 8 => State.minuteKey
  | 9 => fun s => s.serviceResetKey (f.frame.byte 3).toNat
  | _ => State.callKey

/-- The commands of the ten keys, with their codes. -/
def keyRows : List (Nat × Instr) :=
  [(1, .pageNext), (2, .pageBack), (3, .tripSelect), (4, .tripReset), (5, .odoSelect), (6, .acknowledge), (7, .hour),
   (8, .minute), (9, .serviceResetKey), (10, .call)]

/-- The commands of the ten keys: each takes the KEY frames of its code and treats them by its key. -/
theorem exec_key {code : Nat} {c : Instr} (s : State)
    (h : (code, c) ∈ keyRows) :
    exec c s = takeFrame (ofKey code) (fun s f => s.keyFrame f (keyEffect code f)) s := by
  simp only [keyRows, List.mem_cons, List.not_mem_nil, or_false, Prod.mk.injEq] at h
  obtain ⟨rfl, rfl⟩ | ⟨rfl, rfl⟩ | ⟨rfl, rfl⟩ | ⟨rfl, rfl⟩ | ⟨rfl, rfl⟩ | ⟨rfl, rfl⟩ | ⟨rfl, rfl⟩ | ⟨rfl, rfl⟩ |
    ⟨rfl, rfl⟩ | ⟨rfl, rfl⟩ := h
  all_goals rfl

/-- No command of the Dispatcher does anything while it is stopped. -/
theorem exec_frame_stopped {s : State} {c : Instr}
    (hstopped : s.pw.state = .load ∨ s.pw.state = .stabilise ∨ s.pw.state = .sleep)
    (h : c ∈ [Instr.engine, .chassis, .body, .fuelLevel, .warnAck, .serviceReset, .odoAnnounce, .clock, .options, .status,
              .tallyRequest, .calWrite, .tallyReport, .calReply, .unknownKind, .lamp, .insertRate, .insertOnce, .restart,
              .pageNext, .pageBack, .tripSelect, .tripReset, .odoSelect, .acknowledge, .hour, .minute, .serviceResetKey,
              .call]) :
    exec c s = .next s := by
  fin_cases h
  all_goals
    dsimp only [exec, execEngine, execChassis, execBody, execFuelLevel, execWarnAck, execServiceReset, execOdoAnnounce,
      execClock, execOptions, execStatus, execTallyRequest, execCalWrite, execTallyReport, execCalReply, execUnknownKind,
      execLamp, execInsertRate, execInsertOnce, execRestart, execPageNext, execPageBack, execTripSelect, execTripReset,
      execOdoSelect, execAcknowledge, execHour, execMinute, execServiceResetKey, execCall]
    exact takeFrame_stopped hstopped

/-- Settles O30: what waits, what is removed, and what is counted as foreign. -/
theorem framesDiscarded : Obligations.FramesDiscarded := by
  unfold Obligations.FramesDiscarded
  refine ⟨fun s => ⟨fun hstopped c hc => ?_, fun hstate f rest hq => ⟨fun hkind => ?_, fun hkind => ?_, fun hkind => ?_⟩⟩,
    fun s f rest k c hstate hq hmem => ⟨fun h => ?_, fun hlen hstation hheld hbound => ?_, rfl, rfl, rfl, rfl⟩,
    fun s f rest hstate hq hkind => ?_, fun s f rest hstate hq hkind => ?_⟩
  · exact exec_frame_stopped hstopped hc
  · exact takeFrame_removed (apply := discardFrame) hstate hq (ofKind_of hkind) rfl
  · exact takeFrame_removed (apply := discardFrame) hstate hq (ofKind_of hkind) rfl
  · have hacc : ofUnknownKind f.frame = true := by
      obtain h | h := hkind
      · simp [ofUnknownKind, h]
      · have : 16 < f.frame.kind.toNat := h
        simp [ofUnknownKind, this]
    exact takeFrame_removed (apply := discardFrame) hstate hq hacc rfl
  · rw [exec_signal s hmem]
    exact takeFrame_removed hstate hq (ofKind_of rfl) (State.signalFrame_discarded (s := s.taken rest) h)
  · rw [exec_signal s hmem, takeFrame_applied hstate hq (ofKind_of rfl),
      State.signalFrame_foreign (s := s.taken rest) hlen hstation hheld hbound]
    rfl
  · intro taken target hignored p hp hcode
    rw [exec_key (code := p.1) s hp]
    refine takeFrame_removed hstate hq (ofKey_code hkind hcode) ?_
    obtain hshort | hrole | hrepeat := hignored
    · exact State.keyFrame_unnamed (Or.inl hshort)
    · exact State.keyFrame_otherRole (s := s.taken rest) fun h => hrole (roleNamed_iff.mp h)
    · exact State.keyFrame_repeat (s := s.taken rest) hrepeat
  · intro taken hunnamed c hc
    obtain ⟨⟨code, c'⟩, hmem, rfl⟩ := List.mem_map.mp (show c ∈ keyRows.map Prod.snd from hc)
    rw [exec_key s hmem]
    exact takeFrame_removed hstate hq (ofKey_unnamed hkind hunnamed) (State.keyFrame_unnamed hunnamed)

/-! ## WARN ACK (R95) -/

theorem exec_warnAck (s : State) : exec .warnAck s = takeFrame (ofKind kindWarnAck) (fun s f => s.warnAckFrame f.frame) s := rfl

theorem bitAt_seven (b : Byte) : bitAt b 7 = b.getLsbD 7 := rfl

section
variable {s : State} {f : Frame} {e : Warning}

theorem State.warnAckFrame_ignored
    (h : f.data.length < 2 ∨ s.warn.entry (f.byte 1).toNat = none) : s.warnAckFrame f = s := by
  unfold State.warnAckFrame
  by_cases hlen : f.len < 2
  · exact if_pos hlen
  · rw [if_neg hlen, h.resolve_left hlen]

theorem State.warnAckFrame_named (hlen : 2 ≤ f.data.length) (he : s.warn.entry (f.byte 1).toNat = some e) :
    s.warnAckFrame f =
      if (f.byte 2).getLsbD 7 = true ∧ e.cfg.passAck = false then s else s.ackByFrame (f.byte 1).toNat e := by
  unfold State.warnAckFrame
  rw [if_neg (show ¬ f.len < 2 from Nat.not_lt.mpr hlen), he]
  show (if (bitAt (f.byte 2) 7 && !e.cfg.passAck) = true then s else _) = _
  simp only [bitAt_seven, Bool.and_eq_true, Bool.not_eq_true']

/-- An acknowledged entry: a LEVEL entry goes to ACKED, an edge entry to QUIET. -/
theorem State.acknowledgeEntry_eq (s : State) (n : Nat) (e : Warning) :
    s.acknowledgeEntry n e = { s with
      warn := s.warn.setEntry n { e with state := if e.cfg.trigger = .level then .acked else .quiet }
      chime := s.chime.remove s.pw.time n } := by
  unfold State.acknowledgeEntry WarnCfg.isEdge
  cases e.cfg.trigger <;> rfl

end

/-- Settles O33: the frames that do nothing, then the states of the named entry. -/
theorem warnAckFrame : Obligations.WarnAckFrame := by
  unfold Obligations.WarnAckFrame
  intro s f rest hstate hq hkind n taken
  have hacc : ofKind kindWarnAck f.frame = true := ofKind_of hkind
  have hexec : exec .warnAck s = .next ((s.taken rest).warnAckFrame f.frame).finish := by
    rw [exec_warnAck, takeFrame_applied hstate hq hacc]
  refine ⟨fun h => ?_, fun e hlen he => ⟨fun h => ?_, fun hmay hact => ?_, fun hmay hstill => ?_⟩⟩
  · have hnone : f.frame.data.length < 2 ∨ s.warn.entry n = none := by
      obtain h | h | ⟨hlen, hlt⟩ := h
      · exact Or.inl h
      · exact Or.inr h
      · refine Or.inr ?_
        unfold WarnUnit.entry
        rw [List.getD_eq_getElem?_getD, List.getElem?_eq_none (by omega)]
        rfl
    rw [hexec, State.warnAckFrame_ignored (s := s.taken rest) hnone]
    rfl
  · rw [hexec, State.warnAckFrame_named (s := s.taken rest) hlen he]
    split
    · rfl
    · next hpass =>
      have hacked : e.state = .acked := h.resolve_left hpass
      unfold State.ackByFrame
      rw [hacked]
      rfl
  · have hpass : ¬ ((f.frame.byte 2).getLsbD 7 = true ∧ e.cfg.passAck = false) := by
      rintro ⟨h1, h2⟩
      obtain h | h := hmay
      · exact absurd (h1.symm.trans h) (by decide)
      · exact absurd (h2.symm.trans h) (by decide)
    rw [hexec, State.warnAckFrame_named (s := s.taken rest) hlen he, if_neg hpass, State.ackByFrame, hact,
      State.acknowledgeEntry_eq]
    rfl
  · have hpass : ¬ ((f.frame.byte 2).getLsbD 7 = true ∧ e.cfg.passAck = false) := by
      rintro ⟨h1, h2⟩
      obtain h | h := hmay
      · exact absurd (h1.symm.trans h) (by decide)
      · exact absurd (h2.symm.trans h) (by decide)
    rw [hexec, State.warnAckFrame_named (s := s.taken rest) hlen he, if_neg hpass, State.ackByFrame]
    obtain h | h := hstill <;> rw [h] <;> rfl

/-! ## CAL WRITE (R181) -/

theorem exec_calWrite (s : State) :
    exec .calWrite s = takeFrame (ofKind kindCalWrite) (fun s f => s.calWriteFrame f.frame) s := rfl

/-- The target station of a frame, in bits 3 to 0 of its first byte. -/
theorem Frame.target_eq_iff {f : Frame} {n : StationNo} : f.target = n ↔ (f.byte 1).toNat % 16 = n.toNat := by
  rw [← BitVec.toNat_inj]
  simp [Frame.target]

/-- The word address a CAL WRITE names. -/
theorem Frame.word_toNat (f : Frame) : (f.word 2).toNat = (f.byte 2).toNat * 256 + (f.byte 3).toNat := by
  unfold Frame.word
  rw [BitVec.toNat_append, ← Nat.shiftLeft_add_eq_or_of_lt (f.byte 3).isLt, Nat.shiftLeft_eq]

theorem byteOf_word (high low : Byte) :
    byteOf (high.toNat * 256 + low.toNat) 1 = high ∧ byteOf (high.toNat * 256 + low.toNat) 0 = low := by
  have h1 := high.isLt
  have h2 := low.isLt
  rw [byteOf_one, byteOf_zero]
  constructor
  · refine BitVec.eq_of_toNat_eq ?_
    rw [BitVec.toNat_ofNat]
    omega
  · refine BitVec.eq_of_toNat_eq ?_
    rw [BitVec.toNat_ofNat]
    omega

section
variable {s : State} {f : Frame}

theorem State.calWriteFrame_ignored (h : f.data.length < 5 ∨ f.target ≠ s.pw.station) : s.calWriteFrame f = s := if_pos h

theorem State.calWriteFrame_answered (hlen : 5 ≤ f.data.length) (htarget : f.target = s.pw.station) :
    s.calWriteFrame f =
      let a := (f.word 2).toNat
      let result := calResult s a
      (if result = resultOk then s.requestWrite (.calWord a) [f.word 4] else s).calReply a result := by
  refine if_neg ?_
  rintro (h | h)
  · exact absurd h (Nat.not_lt.mpr hlen)
  · exact h htarget

theorem calResult_refused {a : Nat} (h : 383 < a ∨ (s.pw.state = .active ∧ s.acc.speed ≠ 0)) : calResult s a = 1#8 := by
  unfold calResult
  by_cases ha : 383 < a
  · exact if_pos ha
  · rw [if_neg ha]
    exact if_pos (h.resolve_left ha)

theorem calResult_queue {a : Nat} (h : ¬ (383 < a ∨ (s.pw.state = .active ∧ s.acc.speed ≠ 0))) :
    calResult s a = if 4 ≤ calWaiting s.pw.queue ∧ ∀ e ∈ s.pw.queue, e.key ≠ .calWord a then 2#8 else 0#8 := by
  obtain ⟨ha, hmoves⟩ := not_or.mp h
  unfold calResult
  rw [if_neg ha, if_neg hmoves]
  simp only [List.any_eq_false, beq_iff_eq]
  rfl

end

/-- Settles O39: the rows of R181 in their order. -/
theorem calWriteFrame : Obligations.CalWriteFrame := by
  unfold Obligations.CalWriteFrame
  intro s f rest hstate hq hkind a taken refused busy reply
  have hexec : exec .calWrite s = .next ((s.taken rest).calWriteFrame f.frame).finish := by
    rw [exec_calWrite, takeFrame_applied hstate hq (ofKind_of (k := kindCalWrite) hkind)]
  refine ⟨fun h => ?_, fun hlen htarget => ?_⟩
  · rw [hexec, State.calWriteFrame_ignored (s := s.taken rest)
      (h.imp_right fun hother htarget => hother (Frame.target_eq_iff.mp htarget))]
    rfl
  · have hword : (f.frame.word 2).toNat = a := f.frame.word_toNat
    obtain ⟨hhigh, hlow⟩ := byteOf_word (f.frame.byte 2) (f.frame.byte 3)
    have hanswer : ∀ (u : State) (r : Byte), u.calReply a r = reply u r := by
      intro u r
      show u.sendFrame _ _ [byteOf a 1, byteOf a 0, r] = _
      rw [hhigh, hlow]
    rw [hexec, State.calWriteFrame_answered (s := s.taken rest) hlen (Frame.target_eq_iff.mpr htarget), hword]
    dsimp only
    refine ⟨fun hrefused => ?_, fun hrefused hbusy => ?_, fun hrefused hbusy => ?_⟩
    · rw [calResult_refused (s := s.taken rest) hrefused, if_neg (by decide), hanswer]
      rfl
    · have hresult : calResult (s.taken rest) a = 2#8 :=
        (calResult_queue (s := s.taken rest) hrefused).trans (if_pos hbusy)
      rw [hresult, if_neg (by decide), hanswer]
      rfl
    · have hresult : calResult (s.taken rest) a = 0#8 :=
        (calResult_queue (s := s.taken rest) hrefused).trans (if_neg hbusy)
      rw [hresult, if_pos (show (0#8 : Byte) = resultOk from rfl), hanswer]
      rfl

/-! ## TEST frames (R100, R168, R169, R175) -/

theorem namesTest_iff {f : Frame} :
    namesTest f = true ↔ 3 ≤ f.data.length ∧ 1 ≤ (f.byte 2).toNat ∧ (f.byte 2).toNat ≤ 4 := by
  unfold namesTest Frame.len
  rw [Bool.and_eq_true, decide_eq_true_iff, decide_eq_true_iff]

theorem ofTest_code {code : Nat} {f : Frame} (hkind : f.kind = 16#5) (hcode : (f.byte 2).toNat = code) :
    ofTest code f = true := by
  simp [ofTest, kindTest, hkind, hcode]

theorem ofTest_unnamed {code : Nat} {f : Frame} (hkind : f.kind = 16#5)
    (h : f.data.length < 3 ∨ (f.byte 2).toNat = 0 ∨ 4 < (f.byte 2).toNat) : ofTest code f = true := by
  have hnot : namesTest f = false := by
    rw [Bool.eq_false_iff, ne_eq, namesTest_iff]
    omega
  simp [ofTest, kindTest, hkind, hnot]

/-- The effect of each test, by its code. -/
def testEffect (code : Nat) (f : Stored) : State → State :=
  match code with
  | 1 => State.startLampTest
  | 2 => fun s => s.takeRate (f.frame.byte 3).toNat
  | 3 => fun s => s.setPeer { s.peer with once := true }
  | _ => fun s => s.setPw { s.pw with restartPending := true }

/-- The commands of the four tests, with their codes. -/
def testRows : List (Nat × Instr) := [(1, .lamp), (2, .insertRate), (3, .insertOnce), (4, .restart)]

theorem exec_test {code : Nat} {c : Instr} (s : State) (h : (code, c) ∈ testRows) :
    exec c s = takeFrame (ofTest code) (fun s f => s.testFrame f.frame (testEffect code f)) s := by
  simp only [testRows, List.mem_cons, List.not_mem_nil, or_false, Prod.mk.injEq] at h
  obtain ⟨rfl, rfl⟩ | ⟨rfl, rfl⟩ | ⟨rfl, rfl⟩ | ⟨rfl, rfl⟩ := h
  all_goals rfl

section
variable {s : State} {f : Frame} {effect : State → State}

theorem State.testFrame_effect (hlen : 3 ≤ f.data.length) (hlow : 1 ≤ (f.byte 2).toNat) (hhigh : (f.byte 2).toNat ≤ 4)
    (htarget : (f.byte 1).toNat % 16 = s.pw.station.toNat) : s.testFrame f effect = effect s :=
  if_pos ⟨namesTest_iff.mpr ⟨hlen, hlow, hhigh⟩, Frame.target_eq_iff.mpr htarget⟩

theorem State.testFrame_other (h : (f.byte 1).toNat % 16 ≠ s.pw.station.toNat) : s.testFrame f effect = s :=
  if_neg fun hand => h (Frame.target_eq_iff.mp hand.2)

theorem State.testFrame_unnamed (h : f.data.length < 3 ∨ (f.byte 2).toNat = 0 ∨ 4 < (f.byte 2).toNat) :
    s.testFrame f effect = s :=
  if_neg fun hand => by
    have := namesTest_iff.mp hand.1
    omega

end

/-- Settles O40: a test for this station has its effect, and the other TEST frames have none. -/
theorem testFrames : Obligations.TestFrames := by
  unfold Obligations.TestFrames
  refine ⟨fun s f rest hstate hq hkind hlen => ?_, fun s f rest hstate hq hkind => ?_⟩
  · intro taken code
    have heffect : ∀ c, (code, c) ∈ testRows → (f.frame.byte 1).toNat % 16 = s.pw.station.toNat →
        exec c s = .next (testEffect code f (s.taken rest)).finish := by
      intro c hmem htarget
      have hcode : 1 ≤ code ∧ code ≤ 4 := by
        simp only [testRows, List.mem_cons, List.not_mem_nil, or_false, Prod.mk.injEq] at hmem
        omega
      rw [exec_test s hmem, takeFrame_applied hstate hq (ofTest_code hkind rfl),
        State.testFrame_effect (s := s.taken rest) hlen hcode.1 hcode.2 htarget]
    refine ⟨fun htarget => ⟨fun h => ?_, fun h => ?_, fun h => ?_, fun h => ?_⟩, fun hother p hp hcode => ?_⟩
    · rw [heffect .lamp (by simp [h, testRows]) htarget, h]
      rfl
    · rw [heffect .insertRate (by simp [h, testRows]) htarget, h]
      rfl
    · rw [heffect .insertOnce (by simp [h, testRows]) htarget, h]
      rfl
    · rw [heffect .restart (by simp [h, testRows]) htarget, h]
      rfl
    · rw [exec_test (code := p.1) s hp]
      exact takeFrame_removed hstate hq (ofTest_code hkind hcode) (State.testFrame_other (s := s.taken rest) hother)
  · intro taken hunnamed c hc
    obtain ⟨⟨code, c'⟩, hmem, rfl⟩ := List.mem_map.mp (show c ∈ testRows.map Prod.snd from hc)
    rw [exec_test s hmem]
    exact takeFrame_removed hstate hq (ofTest_unnamed hkind hunnamed) (State.testFrame_unnamed hunnamed)

end Sys2Proof.Machine
end

section
/-! PROOFS. The keys (R86, R93, R133, R137 to R139, R141), the pages and the trip reset (R38). -/

namespace Sys2Proof.Machine

/-! ## Pages (R133, R135) and trip records (R38) -/

theorem nextPage_rotates (r : Role) : (pageList r).map (nextPage r) = (pageList r).rotateLeft 1 := by
  cases r <;> rfl

theorem nextPage_previousPage (r : Role) :
    ∀ p ∈ pageList r, previousPage r (nextPage r p) = p ∧ nextPage r (previousPage r p) = p := by
  cases r <;> decide

theorem TripRecord.eq_zero_iff {t : TripRecord} : t = TripRecord.zero ↔ t.dist = 0 ∧ t.fuel = 0 ∧ t.elapsed = 0 := by
  cases t
  simp [TripRecord.zero]

theorem recordReset_empty {t snap : TripRecord} (h : t.dist = 0 ∧ t.fuel = 0 ∧ t.elapsed = 0) :
    recordReset t snap = (t, snap) := if_pos (TripRecord.eq_zero_iff.mpr h)

theorem recordReset_used {t snap : TripRecord} (h : ¬ (t.dist = 0 ∧ t.fuel = 0 ∧ t.elapsed = 0)) :
    recordReset t snap = ({ dist := 0, fuel := 0, elapsed := 0 }, t) := if_neg fun hzero => h (TripRecord.eq_zero_iff.mp hzero)

/-- Settles O42: the lists of R133 page by page, and the records of R38. -/
theorem pagesAndTripReset : Obligations.PagesAndTripReset := by
  unfold Obligations.PagesAndTripReset
  refine ⟨fun r => ⟨nextPage_rotates r, nextPage_previousPage r⟩, rfl, rfl,
    fun r p => ⟨fun h => if_pos h, fun h => if_neg h⟩, fun t => ⟨fun h => ?_, fun h => ?_, fun h => ?_, fun h => ?_⟩⟩
  · simp only [Trip.reset, recordReset_used h]
  · simp only [Trip.reset, recordReset_empty h]
  · simp only [Trip.reset, recordReset_used h]
  · simp only [Trip.reset, recordReset_empty h]

/-! ## Taken keys (R138) -/

/-- The state with a KEY frame taken and recorded. -/
def State.keyed (s : State) (f : Stored) (rest : List Stored) : State :=
  (s.taken rest).setReadout { s.readout with lastKey := some (keyRecord f) }

/-- A KEY frame for this role that names a key and repeats none is recorded and treated by its key. -/
theorem exec_key_taken {s : State} {f : Stored} {rest : List Stored} {code : Nat} {c : Instr}
    (hstate : s.pw.state = .standby ∨ s.pw.state = .active ∨ s.pw.state = .crank) (hq : s.line.inbound = f :: rest)
    (hkind : f.frame.kind = 3#5) (hlen : 3 ≤ f.frame.data.length)
    (hrole : (f.frame.byte 1).toNat = 2 ∨ ((f.frame.byte 1).toNat = 0 ∧ s.pw.role = .front) ∨
      ((f.frame.byte 1).toNat = 1 ∧ s.pw.role = .rear))
    (hnew : ∀ l, s.readout.lastKey = some l → ¬ (l.source = f.frame.source ∧ l.target = f.frame.byte 1 ∧
      l.code = f.frame.byte 2 ∧ l.arg = f.frame.byte 3 ∧ f.arrival < l.arrival + 60))
    (hrow : (code, c) ∈ keyRows) (hcode : (f.frame.byte 2).toNat = code) :
    exec c s = .next (keyEffect code f (s.keyed f rest)).finish := by
  have hrange : 1 ≤ code ∧ code ≤ 10 := by
    simp only [keyRows, List.mem_cons, List.not_mem_nil, or_false, Prod.mk.injEq] at hrow
    omega
  rw [exec_key s hrow, takeFrame_applied hstate hq (ofKey_code hkind hcode),
    State.keyFrame_recorded (s := s.taken rest) hlen (by omega) (by omega) (roleNamed_iff.mpr hrole)]
  · rfl
  · rintro ⟨l, hl, hsame⟩
    exact hnew l hl hsame

/-- The state with a click asked for (R111, R112). -/
def State.clicked (u : State) (refusal : Bool) : State :=
  if u.chime.mode = .idle ∨ u.chime.mode = .click then
    { u with chime := { u.chime with
        mode := .click, click := some { refusal := refusal, start := u.pw.time, second := false } } }
  else u

theorem State.askClick_eq (u : State) (refusal : Bool) :
    u.setChime (u.chime.askClick u.pw.time refusal) = u.clicked refusal := by
  unfold Chimes.askClick State.clicked
  split <;> rfl

theorem State.acceptKey_eq (u : State) : u.acceptKey = u.compose.clicked false := State.askClick_eq _ _

theorem State.refusalClick_eq (u : State) : u.refusalClick = u.clicked true := State.askClick_eq _ _

theorem State.keyClick_eq (u : State) : u.keyClick = u.clicked false := State.askClick_eq _ _

theorem textCovers_eq_false {s : State} :
    textCovers s = false ↔ ∀ text ∈ textTable, padRight 10 text ≠ s.readout.message := by
  simp [textCovers]

theorem tripResetAccepted_iff {s : State} :
    tripResetAccepted s = true ↔
      s.readout.page ∈ [Page.avgEconomy, .avgSpeed, .elapsed, .fuelUsed, .lastTrip] ∧
        ∀ text ∈ textTable, padRight 10 text ≠ s.readout.message := by
  unfold tripResetAccepted
  rw [Bool.and_eq_true, Bool.not_eq_true', textCovers_eq_false]
  cases s.readout.page <;> simp [Page.isTrip]

theorem clockKeyTaken_iff {s : State} :
    clockKeyTaken s = true ↔ s.pw.role = .front ∧ (s.pw.state = .standby ∨ s.pw.state = .active) := by
  simp [clockKeyTaken, evaluates]

/-- Outside ACTIVE the keys of the readout and of the items do nothing. -/
theorem keyEffect_notActive {code : Nat} (f : Stored) {s : State} (h : s.pw.state ≠ .active)
    (hcode : code ∈ [1, 2, 3, 4, 5, 9]) : keyEffect code f s = s := by
  fin_cases hcode <;> exact if_neg h

/-- Settles O41: each key by its code, in ACTIVE and outside it. -/
theorem keysTaken : Obligations.KeysTaken := by
  unfold Obligations.KeysTaken
  intro s f rest hstate hq hkind hlen hrole hnew recorded taken click code active clockTaken clear resettable
  have hexec : ∀ {n c}, (n, c) ∈ keyRows → code = n → exec c s = .next (keyEffect n f taken).finish :=
    fun hrow hcode => exec_key_taken hstate hq hkind hlen hrole hnew hrow hcode
  have haccepted : tripResetAccepted taken = true ↔ resettable := tripResetAccepted_iff
  have hclock : clockKeyTaken taken = true ↔ clockTaken := clockKeyTaken_iff
  refine ⟨fun h ha => ?_, fun h ha => ?_, fun h ha => ?_, fun h ha hr => ?_, fun h ha hr => ?_, fun h ha => ?_,
    fun h hc => ?_, fun h hc => ?_, fun h hfront hstandby => ?_, fun h hother => ?_, fun hna p hp hcode => ?_,
    fun hnc => ⟨fun h => ?_, fun h => ?_⟩⟩
  · rw [hexec (n := 1) (by simp [keyRows]) h]
    show Host.Outcome.next (State.pageNextKey taken).finish = _
    rw [State.pageNextKey, if_pos (show taken.pw.state = .active from ha), State.acceptKey_eq]
    rfl
  · rw [hexec (n := 2) (by simp [keyRows]) h]
    show Host.Outcome.next (State.pageBackKey taken).finish = _
    rw [State.pageBackKey, if_pos (show taken.pw.state = .active from ha), State.acceptKey_eq]
    rfl
  · rw [hexec (n := 3) (by simp [keyRows]) h]
    show Host.Outcome.next (State.tripSelectKey taken).finish = _
    rw [State.tripSelectKey, if_pos (show taken.pw.state = .active from ha), State.acceptKey_eq]
    rfl
  · rw [hexec (n := 4) (by simp [keyRows]) h]
    show Host.Outcome.next (State.tripResetKey taken).finish = _
    rw [State.tripResetKey, if_pos (show taken.pw.state = .active from ha), if_pos (haccepted.mpr hr), State.acceptKey_eq]
    rfl
  · rw [hexec (n := 4) (by simp [keyRows]) h]
    show Host.Outcome.next (State.tripResetKey taken).finish = _
    rw [State.tripResetKey, if_pos (show taken.pw.state = .active from ha), if_neg (fun h => hr (haccepted.mp h)),
      State.refusalClick_eq]
    rfl
  · rw [hexec (n := 5) (by simp [keyRows]) h]
    show Host.Outcome.next (State.odoSelectKey taken).finish = _
    rw [State.odoSelectKey, if_pos (show taken.pw.state = .active from ha), State.acceptKey_eq]
    rfl
  · rw [hexec (n := 7) (by simp [keyRows]) h]
    show Host.Outcome.next (State.hourKey taken).finish = _
    rw [State.hourKey, if_pos (hclock.mpr hc), State.acceptKey_eq]
    rfl
  · rw [hexec (n := 8) (by simp [keyRows]) h]
    show Host.Outcome.next (State.minuteKey taken).finish = _
    rw [State.minuteKey, if_pos (hclock.mpr hc), State.acceptKey_eq]
    rfl
  · rw [hexec (n := 10) (by simp [keyRows]) h]
    show Host.Outcome.next (State.callKey taken).finish = _
    rw [State.callKey, if_pos ⟨hfront, hstate.resolve_left hstandby⟩, State.keyClick_eq]
    rfl
  · rw [hexec (n := 10) (by simp [keyRows]) h]
    show Host.Outcome.next (State.callKey taken).finish = _
    rw [State.callKey, if_neg]
    rintro ⟨hfront, hruns⟩
    have hrole' : s.pw.role = .front := hfront
    have hruns' : s.pw.state = .active ∨ s.pw.state = .crank := hruns
    rcases hother with h | h <;> simp_all
  · have hrow : (p.1, p.2) ∈ keyRows ∧ p.1 ∈ [1, 2, 3, 4, 5, 9] := by
      fin_cases hp <;> decide
    rw [hexec hrow.1 hcode, keyEffect_notActive (s := taken) f hna hrow.2]
  · rw [hexec (n := 7) (by simp [keyRows]) h]
    show Host.Outcome.next (State.hourKey taken).finish = _
    rw [State.hourKey, if_neg (fun h => hnc (hclock.mp h))]
  · rw [hexec (n := 8) (by simp [keyRows]) h]
    show Host.Outcome.next (State.minuteKey taken).finish = _
    rw [State.minuteKey, if_neg (fun h => hnc (hclock.mp h))]

end Sys2Proof.Machine
end

section
/-! PROOFS. ACKNOWLEDGE and the foremost warning (R93, R94, R97), and the resets of service items (R123 to R126). -/

namespace Sys2Proof.Machine

/-! ## The foremost warning without a chime (R97) -/

/-- Entry `w` goes before entry `x`, or stands as early: a better class, or the same and no later raise order. -/
def NotAfter (w x : Warning) : Prop :=
  w.cfg.cls.rank < x.cfg.cls.rank ∨ (w.cfg.cls.rank = x.cfg.cls.rank ∧ w.raise.getD 0 ≤ x.raise.getD 0)

theorem NotAfter.refl (w : Warning) : NotAfter w w := Or.inr ⟨rfl, le_refl _⟩

theorem NotAfter.trans {w x y : Warning} (h : NotAfter w x) (h' : NotAfter x y) : NotAfter w y := by
  unfold NotAfter at *
  omega

theorem notAfter_of_raisedBefore {x y : Warning} (h : raisedBefore x y = true) : NotAfter x y := by
  simp only [raisedBefore, Bool.or_eq_true, Bool.and_eq_true, decide_eq_true_eq] at h
  unfold NotAfter
  omega

theorem notAfter_of_not_raisedBefore {x y : Warning} (h : ¬ raisedBefore x y = true) : NotAfter y x := by
  simp only [raisedBefore, Bool.or_eq_true, Bool.and_eq_true, decide_eq_true_eq] at h
  unfold NotAfter
  omega

/-- An ACTIVE entry whose audience includes the role. -/
def Concerns (r : Role) (w : Warning) : Prop := w.state = .active ∧ w.cfg.audience.includes r = true

/-- The better of an entry and the best found before it. -/
def betterOf (best : Option (Nat × Warning)) (n : Nat) (e : Warning) : Nat × Warning :=
  match best with
  | none => (n, e)
  | some (m, b) => if raisedBefore e b then (n, e) else (m, b)

theorem betterOf_notAfter (best : Option (Nat × Warning)) (n : Nat) (e : Warning) :
    NotAfter (betterOf best n e).2 e ∧ ∀ m b, best = some (m, b) → NotAfter (betterOf best n e).2 b := by
  unfold betterOf
  rcases best with _ | ⟨m, b⟩
  · exact ⟨.refl e, by simp⟩
  · dsimp only
    split
    · next h =>
      refine ⟨.refl e, ?_⟩
      rintro _ _ ⟨⟩
      exact notAfter_of_raisedBefore h
    · next h =>
      refine ⟨notAfter_of_not_raisedBefore h, ?_⟩
      rintro _ _ ⟨⟩
      exact .refl b

theorem betterOf_eq (best : Option (Nat × Warning)) (n : Nat) (e : Warning) :
    betterOf best n e = (n, e) ∨ best = some (betterOf best n e) := by
  unfold betterOf
  rcases best with _ | ⟨m, b⟩
  · exact Or.inl rfl
  · dsimp only
    split
    · exact Or.inl rfl
    · exact Or.inr rfl

section
variable {r : Role}

theorem bestActive_skip_none (rest : List (Option Warning)) (n : Nat) (best : Option (Nat × Warning)) :
    bestActive r (none :: rest) n best = bestActive r rest (n + 1) best := rfl

theorem bestActive_skip {e : Warning} (h : ¬ Concerns r e) (rest : List (Option Warning)) (n : Nat)
    (best : Option (Nat × Warning)) : bestActive r (some e :: rest) n best = bestActive r rest (n + 1) best := by
  have hnot : ¬ ((e.state == .active && e.cfg.audience.includes r) = true) := by
    simpa [Concerns] using h
  rw [bestActive.eq_def]
  exact if_neg hnot

theorem bestActive_take {e : Warning} (h : Concerns r e) (rest : List (Option Warning)) (n : Nat)
    (best : Option (Nat × Warning)) :
    bestActive r (some e :: rest) n best = bestActive r rest (n + 1) (some (betterOf best n e)) := by
  obtain ⟨hactive, haudience⟩ := h
  rw [bestActive.eq_def]
  dsimp only
  rw [if_pos (by simp [hactive, haudience])]
  unfold betterOf
  rcases best with _ | ⟨m, b⟩
  · rfl
  · dsimp only
    split <;> rfl

theorem bestActive_none_iff {table : List (Option Warning)} {n : Nat} {best : Option (Nat × Warning)} :
    bestActive r table n best = none ↔ best = none ∧ ∀ x : Warning, some x ∈ table → ¬ Concerns r x := by
  induction table generalizing n best with
  | nil => simp [bestActive]
  | cons o rest ih =>
    rcases o with _ | e
    · rw [bestActive_skip_none, ih]
      simp
    · by_cases h : Concerns r e
      · rw [bestActive_take h, ih]
        exact iff_of_false (by simp) fun hall => hall.2 e List.mem_cons_self h
      · rw [bestActive_skip h, ih]
        simp [h]

/-- The entry found is the best found before or one of the table, and none that concerns the role goes before it. -/
theorem bestActive_some {table : List (Option Warning)} {n k : Nat} {best : Option (Nat × Warning)}
    (h : bestActive r table n best = some k) :
    ∃ w, (best = some (k, w) ∨ ∃ i, k = n + i ∧ table[i]? = some (some w) ∧ Concerns r w) ∧
      (∀ m b, best = some (m, b) → NotAfter w b) ∧ ∀ x : Warning, some x ∈ table → Concerns r x → NotAfter w x := by
  induction table generalizing n best with
  | nil =>
    rcases best with _ | ⟨m, b⟩
    · simp [bestActive] at h
    · obtain rfl : m = k := by simpa [bestActive] using h
      refine ⟨b, Or.inl rfl, ?_, by simp⟩
      rintro _ _ ⟨⟩
      exact .refl b
  | cons o rest ih =>
    rcases o with _ | e
    · rw [bestActive_skip_none] at h
      obtain ⟨w, hw, hbest, hall⟩ := ih h
      refine ⟨w, hw.imp_right ?_, hbest, fun x hx => hall x (by simpa using hx)⟩
      rintro ⟨i, hi, hrest⟩
      exact ⟨i + 1, by omega, hrest⟩
    · by_cases hc : Concerns r e
      · rw [bestActive_take hc] at h
        obtain ⟨w, hw, hbest, hall⟩ := ih h
        obtain ⟨hbetter, hbefore⟩ := betterOf_notAfter best n e
        have hfirst : NotAfter w (betterOf best n e).2 := hbest _ _ rfl
        refine ⟨w, ?_, fun m b hb => hfirst.trans (hbefore m b hb), fun x hx hxc => ?_⟩
        · rcases hw with hw | ⟨i, hi, hrest⟩
          · have hpair : betterOf best n e = (k, w) := Option.some.inj hw
            rcases betterOf_eq best n e with heq | heq
            · obtain ⟨rfl, rfl⟩ := Prod.mk.inj (heq.symm.trans hpair)
              exact Or.inr ⟨0, rfl, rfl, hc⟩
            · exact Or.inl (heq.trans (congrArg some hpair))
          · exact Or.inr ⟨i + 1, by omega, hrest⟩
        · rcases List.mem_cons.mp hx with heq | hx
          · rw [Option.some.inj heq]
            exact hfirst.trans hbetter
          · exact hall x hx hxc
      · rw [bestActive_skip hc] at h
        obtain ⟨w, hw, hbest, hall⟩ := ih h
        refine ⟨w, hw.imp_right ?_, hbest, fun x hx hxc => ?_⟩
        · rintro ⟨i, hi, hrest⟩
          exact ⟨i + 1, by omega, hrest⟩
        · rcases List.mem_cons.mp hx with heq | hx
          · exact absurd (Option.some.inj heq ▸ hxc) hc
          · exact hall x hx hxc

end

theorem WarnUnit.entry_eq_some_iff {w : WarnUnit} {n : Nat} {e : Warning} :
    w.entry n = some e ↔ w.table[n]? = some (some e) := by
  unfold WarnUnit.entry
  rw [List.getD_eq_getElem?_getD]
  cases h : w.table[n]? <;> simp

theorem WarnUnit.entry_mem {w : WarnUnit} {e : Warning} : (∃ n, w.entry n = some e) ↔ some e ∈ w.table := by
  simp only [WarnUnit.entry_eq_some_iff, List.mem_iff_getElem?]

theorem foremost_head {s : State} {e : ChimeEntry} {q : List ChimeEntry} (h : s.chime.queue = e :: q) :
    foremost s = some e.warning := by
  unfold foremost
  rw [h]

theorem foremost_silent {s : State} (h : s.chime.queue = []) : foremost s = bestActive s.pw.role s.warn.table 0 none := by
  unfold foremost
  rw [h]

/-! ## ACKNOWLEDGE (R93, R94) -/

section
variable {s : State} {n : Nat} {e : Warning}

theorem State.acknowledgeForemost_none (h : foremost s = none) : s.acknowledgeForemost = s := by
  unfold State.acknowledgeForemost
  rw [h]

theorem State.acknowledgeForemost_some (hn : foremost s = some n) (he : s.warn.entry n = some e) :
    s.acknowledgeForemost =
      if mayAcknowledge s.pw.role e then
        (s.acknowledgeEntry n e).sendFrame kindWarnAck (some n) (warnAckData s.pw.role n)
      else s := by
  unfold State.acknowledgeForemost
  rw [hn]
  dsimp only
  rw [he]

theorem mayAcknowledge_iff {r : Role} : mayAcknowledge r e = true ↔ r = .front ∨ e.cfg.passAck = true := by
  simp [mayAcknowledge]

end

/-- Settles O43: the foremost warning and the role's right decide; the order of R97 where no chime waits. -/
theorem acknowledgeKey : Obligations.AcknowledgeKey := by
  unfold Obligations.AcknowledgeKey
  intro s f rest hstate hq hkind hlen hcode hrole hnew taken
  have hexec : exec .acknowledge s = .next (State.acknowledgeKey taken).finish :=
    exec_key_taken hstate hq hkind hlen hrole hnew (code := 6) (by simp [keyRows]) hcode
  have hkey : s.pw.state ≠ .crank → State.acknowledgeKey taken = taken.acknowledgeForemost.keyClick := by
    intro hcrank
    refine if_pos (show s.pw.state = .standby ∨ s.pw.state = .active from ?_)
    rcases hstate with h | h | h
    · exact Or.inl h
    · exact Or.inr h
    · exact absurd h hcrank
  refine ⟨fun hcrank => ?_, fun hcrank hnone => ?_, fun n e hcrank hn he hmay => ?_, fun n e hcrank hn he hmay => ?_,
    fun e q h => foremost_head h, ?_, fun n hqueue hn => ?_⟩
  · rw [hexec, State.acknowledgeKey, if_neg (show ¬ (s.pw.state = .standby ∨ s.pw.state = .active) by simp [hcrank])]
  · rw [hexec, hkey hcrank, State.acknowledgeForemost_none (s := taken) hnone]
  · have hnot : ¬ mayAcknowledge taken.pw.role e = true := by
      rw [mayAcknowledge_iff]
      obtain ⟨hrear, hpass⟩ := hmay
      have : taken.pw.role = .rear := hrear
      simp [this, hpass]
    rw [hexec, hkey hcrank, State.acknowledgeForemost_some (s := taken) hn he, if_neg hnot]
  · have hnumber : warnAckData s.pw.role n = [BitVec.ofNat 8 n, if s.pw.role = .rear then 0x80#8 else 0#8] := by
      simp [warnAckData, byteOf_zero]
    rw [hexec, hkey hcrank, State.acknowledgeForemost_some (s := taken) hn he,
      if_pos (mayAcknowledge_iff.mpr hmay), State.acknowledgeEntry_eq, ← hnumber]
  · refine ⟨fun h => ?_, fun ⟨hqueue, hall⟩ => ?_⟩
    · cases hqueue : s.chime.queue with
      | cons e q => exact absurd ((foremost_head hqueue).symm.trans h) (by simp)
      | nil =>
        rw [foremost_silent hqueue, bestActive_none_iff] at h
        refine ⟨rfl, fun m x hx hactive => ?_⟩
        have hnot := h.2 x (WarnUnit.entry_mem.mp ⟨m, hx⟩)
        exact Bool.eq_false_iff.mpr fun hin => hnot ⟨hactive, hin⟩
    · rw [foremost_silent hqueue, bestActive_none_iff]
      refine ⟨rfl, fun x hx hc => ?_⟩
      obtain ⟨m, hm⟩ := WarnUnit.entry_mem.mpr hx
      exact absurd (hc.2.symm.trans (hall m x hm hc.1)) (by decide)
  · rw [foremost_silent hqueue] at hn
    obtain ⟨w, hw, -, hall⟩ := bestActive_some hn
    rcases hw with hw | ⟨i, hi, hentry, hc⟩
    · exact absurd hw (by simp)
    · refine ⟨w, WarnUnit.entry_eq_some_iff.mpr (by rw [hi, Nat.zero_add]; exact hentry), hc.1, hc.2,
        fun m x hx hactive haud => hall x (WarnUnit.entry_mem.mp ⟨m, hx⟩) ⟨hactive, haud⟩⟩

/-! ## Service resets (R123 to R126) -/

theorem exec_serviceReset (s : State) :
    exec .serviceReset s = takeFrame (ofKind kindServiceReset) (fun s f => s.serviceResetFrame f.frame) s := rfl

/-- An item with new baselines, evaluated as it then stands (R124, R126). -/
def ServiceItem.based (x : ServiceItem) (odoBase dayBase hoursBase odo day hours : Nat) : ServiceItem :=
  let y : ServiceItem := { x with odoBase := odoBase, dayBase := dayBase, hoursBase := hoursBase }
  { y with state := itemState y odo day hours }

section
variable {s : State} {n : Nat} {x : ServiceItem}

theorem State.rebaseItem_eq (hx : s.service.items[n]? = some x) (odoBase dayBase hoursBase : Nat) :
    s.rebaseItem n odoBase dayBase hoursBase =
      s.setService { s.service with
        items := (s.service.items.set n
          (x.based odoBase dayBase hoursBase s.acc.odo s.readout.day s.service.hours)) } := by
  unfold State.rebaseItem
  rw [updateAt_eq_set _ hx]
  rfl

theorem State.serviceResetFrame_ignored {f : Frame} (h : f.data.length < 6 ∨ 5 < (f.byte 1).toNat) :
    s.serviceResetFrame f = s := if_pos h

theorem State.serviceResetFrame_taken {f : Frame} (hlen : 6 ≤ f.data.length) (hn : (f.byte 1).toNat ≤ 5) :
    s.serviceResetFrame f =
      (s.rebaseItem (f.byte 1).toNat (min (fromBytes [f.byte 2, f.byte 3, f.byte 4]) s.acc.odo)
        (fromBytes [f.byte 5, f.byte 6]) s.service.wholeHours).requestService := by
  refine if_neg ?_
  rintro (h | h)
  · exact absurd h (Nat.not_lt.mpr hlen)
  · exact absurd h (Nat.not_lt.mpr hn)

theorem serviceResetAccepted_iff (hstate : s.pw.state = .active) :
    serviceResetAccepted s n = true ↔
      s.pw.role = .front ∧ s.sig.chassisHdr.fresh = .fresh ∧ s.acc.speed = 0 ∧ s.sig.engineHdr.fresh = .fresh ∧
        s.sig.engine.speed < 400 ∧ n ≤ 5 := by
  simp [serviceResetAccepted, hstate, and_assoc]

/-- An accepted SERVICE RESET key up to its click (R124). -/
theorem State.resetItem_eq (hx : s.service.items[n]? = some x) :
    s.resetItem n =
      (let items := s.service.items.set n (x.based s.acc.odo s.readout.day (s.service.hours / 10) s.acc.odo
        s.readout.day s.service.hours)
       State.sendFrame { s with
        service := { s.service with items := items }
        pw := { s.pw with
          queue := (writeRequest
            (if s.acc.odoUnknown then s.pw.queue else writeRequest s.pw.queue .odometer (slotWords s.acc.odo))
            .service (serviceWords items)) } }
        kindServiceReset (some n) (serviceResetData n s.acc.odo s.readout.day)) := by
  unfold State.resetItem
  rw [State.rebaseItem_eq hx]
  dsimp only
  rw [State.requestOdometer_eq]
  rfl

end

/-- Settles O34: the frame at any station, and the key at the FRONT cluster. -/
theorem serviceResets : Obligations.ServiceResets := by
  unfold Obligations.ServiceResets
  refine ⟨fun s f rest hstate hq hkind => ?_, fun s f rest hactive hq hkind hlen hcode hrole hnew => ?_⟩
  · intro n taken odo day
    have hexec : exec .serviceReset s = .next ((s.taken rest).serviceResetFrame f.frame).finish := by
      rw [exec_serviceReset, takeFrame_applied hstate hq (ofKind_of (k := kindServiceReset) hkind)]
    refine ⟨fun h => ?_, fun x hlen hn hx => ?_⟩
    · rw [hexec, State.serviceResetFrame_ignored (s := s.taken rest) h]
      rfl
    · intro based items
      rw [hexec, State.serviceResetFrame_taken (s := s.taken rest) hlen hn,
        State.rebaseItem_eq (s := s.taken rest) hx, fromBytes_three, fromBytes_two]
      rfl
  · intro n taken accepted
    have hexec : exec .serviceResetKey s = .next (taken.serviceResetKey n).finish :=
      exec_key_taken (Or.inr (Or.inl hactive)) hq hkind hlen hrole hnew (code := 9) (by simp [keyRows]) hcode
    have haccepted : serviceResetAccepted taken n = true ↔ accepted := serviceResetAccepted_iff (s := taken) hactive
    have hkey : taken.serviceResetKey n =
        if serviceResetAccepted taken n then (taken.resetItem n).keyClick else taken.refusalClick :=
      if_pos (show taken.pw.state = .active from hactive)
    refine ⟨fun x hacc hx => ?_, fun hrefused => ?_⟩
    · intro based items saved
      have hbytes : serviceResetData n s.acc.odo s.readout.day =
          [BitVec.ofNat 8 n, byteOf s.acc.odo 2, byteOf s.acc.odo 1, byteOf s.acc.odo 0, byteOf s.readout.day 1,
           byteOf s.readout.day 0] := by
        simp only [serviceResetData, byteOf_zero n]
      rw [hexec, hkey, if_pos (haccepted.mpr hacc), State.resetItem_eq (s := taken) hx, ← hbytes]
      rfl
    · rw [hexec, hkey, if_neg (fun h => hrefused (haccepted.mp h))]

end Sys2Proof.Machine
end

section
/-! PROOFS. STATUS (R159, R161, R162) and TALLY REQUEST (R166, R167). -/

namespace Sys2Proof.Machine

/-! ## The sequence (R159) -/

theorem nextSequence_orbit (v : BitVec 7) (h : v ≠ 0#7) : v ∈ List.iterate nextSequence 1#7 127 := by
  revert v
  decide

theorem nextSequence_moves (v : BitVec 7) (h : v ≠ 0#7) : nextSequence v ≠ v := by
  revert v
  decide

/-- Every value but 0 returns after 127 steps: all of them lie on the orbit of 1. -/
theorem nextSequence_periodic {v : BitVec 7} (h : v ≠ 0#7) : Function.IsPeriodicPt nextSequence 127 v := by
  obtain ⟨m, -, rfl⟩ := List.mem_iterate.mp (nextSequence_orbit v h)
  have hone : Function.IsPeriodicPt nextSequence 127 1#7 := by
    show nextSequence^[127] 1#7 = 1#7
    simp [Function.iterate_succ_apply, nextSequence]
  exact hone.map (Function.Commute.iterate_right (Function.Commute.refl nextSequence) m).symm.semiconj

/-- None returns earlier: 127 is prime, and no value but 0 stays. -/
theorem nextSequence_noEarlier {v : BitVec 7} (h : v ≠ 0#7) {k : Nat} (hpos : 0 < k) (hlt : k < 127) :
    nextSequence^[k] v ≠ v := by
  intro hk
  have hprime : Nat.Coprime k 127 := ((Nat.Prime.coprime_iff_not_dvd (by norm_num : Nat.Prime 127)).mpr
    (Nat.not_dvd_of_pos_of_lt hpos hlt)).symm
  have hone := Function.IsPeriodicPt.gcd (f := nextSequence) (x := v) hk (nextSequence_periodic h)
  rw [hprime.gcd_eq_one] at hone
  exact nextSequence_moves v h hone

theorem statusOutcome_hit_iff {l v : BitVec 7} :
    statusOutcome l v = .hit ↔ v ≠ 0#7 ∧ l ≠ 0#7 ∧ v = nextSequence l := by
  unfold statusOutcome
  by_cases hv : v = 0#7
  · simp [hv]
  · by_cases hl : l = 0#7
    · simp [hl]
    · by_cases hnext : v = nextSequence l
      · simp [hv, hl, ← hnext]
      · simp only [hv, hl, or_self, if_false, hnext, not_false_eq_true, ne_eq, and_false]
        split <;> simp

theorem statusOutcome_miss_iff {l v : BitVec 7} :
    statusOutcome l v = .miss ↔ v ≠ 0#7 ∧ l ≠ 0#7 ∧ v = nextSequence (nextSequence l) := by
  unfold statusOutcome
  by_cases hv : v = 0#7
  · simp [hv]
  · by_cases hl : l = 0#7
    · simp [hl]
    · have hmoves : nextSequence l ≠ nextSequence (nextSequence l) := by
        revert l
        decide
      by_cases hnext : v = nextSequence l
      · simp [hv, hl, ← hnext, hnext ▸ hmoves]
      · by_cases hmiss : v = nextSequence (nextSequence l)
        · rw [if_neg (by simp [hv, hl]), if_neg hnext, if_pos hmiss]
          exact iff_of_true rfl ⟨hv, hl, hmiss⟩
        · rw [if_neg (by simp [hv, hl]), if_neg hnext, if_neg hmiss]
          exact iff_of_false (by simp) (fun h => hmiss h.2.2)

/-! ## A record that takes a value (R161, R162) -/

theorem exec_status (s : State) : exec .status s = takeFrame (ofKind kindStatus) (fun s f => s.statusFrame f) s := rfl

theorem windowAdd_eq {w : List Outcome3} (h : w.length ≤ 16) (o : Outcome3) :
    windowAdd w o = (w ++ [o]).drop (w.length - 15) := by
  unfold windowAdd
  dsimp only
  by_cases hfull : w.length = 16
  · rw [if_pos (by simp [hfull]), hfull]
  · rw [if_neg (by simp; omega), show w.length - 15 = 0 by omega, List.drop_zero]

section
variable {r : Station} {v : BitVec 7} {arrival : Nat}

theorem Station.takeStatus_absent (h : r.state = .absent) :
    r.takeStatus v arrival = { r with
      state := .hunt, last := some v, hitRun := 0, window := [], lastTime := arrival, seen := true } := by
  cases r
  cases h
  rfl

/-- The outcome of a value is counted and moves the record. -/
theorem Station.takeStatus_moves (h : r.state ≠ .absent) :
    r.takeStatus v arrival =
      Station.move { r with lastTime := arrival, last := some v, tallies := r.tallies.count (statusOutcome (r.last.getD 0#7) v) }
        (statusOutcome (r.last.getD 0#7) v) := by
  cases r with
  | mk state last lastTime hitRun window seen tallies =>
    cases state
    · exact absurd rfl h
    all_goals rfl

end

section
variable {r : Station} {o : Outcome3}

theorem Station.runStep_second (ho : o = .hit) (h : 1 ≤ r.hitRun) :
    r.runStep o = { r with state := .sync, hitRun := 0, window := [] } := by
  unfold Station.runStep
  rw [if_pos ho, if_pos (by omega)]

theorem Station.runStep_first (ho : o = .hit) (h : r.hitRun = 0) : r.runStep o = { r with hitRun := 1 } := by
  unfold Station.runStep
  rw [if_pos ho, if_neg (by omega), h]

theorem Station.runStep_broken (ho : o ≠ .hit) : r.runStep o = { r with hitRun := 0 } := by
  unfold Station.runStep
  exact if_neg ho

theorem Station.move_hunt (h : r.state = .hunt) : r.move o = r.runStep o := by
  unfold Station.move
  rw [h]

theorem Station.move_sync (h : r.state = .sync) :
    r.move o = Station.syncStep { r with window := windowAdd r.window o } := by
  unfold Station.move
  rw [h]

theorem Station.move_slip (h : r.state = .slip) :
    r.move o = Station.runStep { r with window := windowAdd r.window o } o := by
  unfold Station.move
  rw [h]

theorem Station.syncStep_window (r : Station) : r.syncStep.window = r.window := by
  unfold Station.syncStep
  split <;> rfl

theorem Station.syncStep_slips (h : 4 ≤ r.window.count .mismatch) :
    r.syncStep = { r with
      state := .slip, hitRun := 0, tallies := { r.tallies with slips := min (r.tallies.slips + 1) 255 } } := if_pos h

theorem Station.syncStep_stays (h : r.window.count .mismatch < 4) : r.syncStep = r := if_neg (Nat.not_le.mpr h)

/-- What no move of a record changes. -/
theorem Station.move_keeps (r : Station) (o : Outcome3) :
    (r.move o).last = r.last ∧ (r.move o).lastTime = r.lastTime ∧ (r.move o).seen = r.seen ∧
      (r.move o).tallies.hits = r.tallies.hits ∧ (r.move o).tallies.misses = r.tallies.misses ∧
      (r.move o).tallies.mismatches = r.tallies.mismatches ∧ (r.move o).tallies.absents = r.tallies.absents := by
  unfold Station.move Station.runStep Station.syncStep
  (repeat' split) <;> exact ⟨rfl, rfl, rfl, rfl, rfl, rfl, rfl⟩

end

theorem StationTallies.count_eq (t : StationTallies) (o : Outcome3) :
    t.count o = { t with
      hits := if o = .hit then min (t.hits + 1) 65535 else t.hits
      misses := if o = .miss then min (t.misses + 1) 65535 else t.misses
      mismatches := if o = .mismatch then min (t.mismatches + 1) 65535 else t.mismatches } := by
  cases o <;> rfl

theorem windowMismatches_eq (w : List Outcome3) : windowMismatches w = w.count .mismatch := rfl

/-- Settles O37: the frames that move no record, the move by the record's state, and the sequence. -/
theorem statusFrame : Obligations.StatusFrame := by
  unfold Obligations.StatusFrame
  refine ⟨fun s f rest hstate hq hkind hstations => ?_, nextSequence_eq, by decide,
    fun v hv => ⟨nextSequence_periodic hv, fun k hpos hlt => nextSequence_noEarlier hv hpos hlt⟩,
    fun l v => ⟨statusOutcome_hit_iff, statusOutcome_miss_iff⟩⟩
  intro taken
  have hexec : exec .status s = .next ((s.taken rest).statusFrame f).finish := by
    rw [exec_status, takeFrame_applied hstate hq (ofKind_of (k := kindStatus) hkind)]
  refine ⟨fun hown => ?_, fun hother hempty => ?_, fun b bytes hother hdata => ?_⟩
  · rw [hexec, State.statusFrame, if_pos (show f.frame.source = (s.taken rest).pw.station from hown)]
    rfl
  · rw [hexec, State.statusFrame, if_neg (show ¬ f.frame.source = (s.taken rest).pw.station from hother),
      if_pos (show f.frame.len = 0 from by rw [Frame.len, hempty]; rfl)]
    rfl
  · intro v r o window
    have hvalue : (f.frame.byte 1).truncate 7 = v := by
      have hbyte : f.frame.byte 1 = b := by rw [Frame.byte, hdata]; rfl
      rw [hbyte]
      refine BitVec.eq_of_toNat_eq ?_
      simp [v]
    have hrow : s.peer.stations[f.frame.source.toNat]? = some r := by
      have hlt : f.frame.source.toNat < s.peer.stations.length := by
        rw [hstations]
        exact f.frame.source.isLt
      show _ = some (s.peer.stations.getD f.frame.source.toNat Station.reset)
      rw [List.getD_eq_getElem?_getD, List.getElem?_eq_getElem hlt]
      rfl
    let q : Station := { r with lastTime := f.arrival, last := some v, tallies := r.tallies.count o }
    refine ⟨r.takeStatus v f.arrival, ?_, ?_⟩
    · rw [hexec, State.statusFrame, if_neg (show ¬ f.frame.source = (s.taken rest).pw.station from hother),
        if_neg (show ¬ f.frame.len = 0 from by rw [Frame.len, hdata]; simp), hvalue]
      show Host.Outcome.next (State.finish ((s.taken rest).setPeer
        { s.peer with stations := updateAt s.peer.stations f.frame.source.toNat _ })) = _
      rw [updateAt_eq_set _ hrow]
      rfl
    · by_cases habsent : r.state = .absent
      · have hother : ∀ p, p ≠ StationState.absent → r.state = p → False := fun p hp h => hp (h ▸ habsent)
        rw [Station.takeStatus_absent habsent]
        exact ⟨rfl, rfl, fun _ => rfl, fun h => absurd habsent h, fun h => (hother _ (by decide) h).elim,
          fun h => (hother _ (by decide) h).elim, fun h => (hother _ (by decide) h).elim⟩
      · have hmoves : r.takeStatus v f.arrival = q.move o := Station.takeStatus_moves habsent
        obtain ⟨hlast, htime, hseen, hhits, hmisses, hmismatches, habsents⟩ := q.move_keeps o
        have hcount := StationTallies.count_eq r.tallies o
        have hslips : q.tallies.slips = r.tallies.slips := by
          show (r.tallies.count o).slips = _
          rw [hcount]
        rw [hmoves]
        refine ⟨hlast, htime, fun h => absurd h habsent, fun _ => ⟨hseen, habsents.trans ?_, hhits.trans ?_,
          hmisses.trans ?_, hmismatches.trans ?_⟩, fun h => ?_, fun h hlen => ?_, fun h hlen => ?_⟩
        · show (r.tallies.count o).absents = _
          rw [hcount]
        · show (r.tallies.count o).hits = _
          rw [hcount]
        · show (r.tallies.count o).misses = _
          rw [hcount]
        · show (r.tallies.count o).mismatches = _
          rw [hcount]
        · rw [Station.move_hunt (r := q) h]
          refine ⟨fun ho hrun => ?_, fun ho hrun => ?_, fun ho => ?_, ?_⟩
          · rw [Station.runStep_second (r := q) ho hrun]
            exact ⟨rfl, rfl, rfl⟩
          · rw [Station.runStep_first (r := q) ho hrun]
            exact ⟨h, rfl, rfl⟩
          · rw [Station.runStep_broken (r := q) ho]
            exact ⟨h, rfl, rfl⟩
          · rw [Station.runStep_tallies, hslips]
        · rw [Station.move_sync (r := q) h, show windowAdd q.window o = window from windowAdd_eq hlen o]
          refine ⟨Station.syncStep_window _, fun hslip => ?_, fun hstay => ?_⟩
          · rw [Station.syncStep_slips (r := { q with window := window }) hslip]
            exact ⟨rfl, rfl, congrArg (fun k => min (k + 1) 255) hslips⟩
          · rw [Station.syncStep_stays (r := { q with window := window }) hstay]
            exact ⟨h, hslips⟩
        · rw [Station.move_slip (r := q) h, show windowAdd q.window o = window from windowAdd_eq hlen o]
          refine ⟨fun ho hrun => ?_, fun ho hrun => ?_, fun ho => ?_, ?_⟩
          · rw [Station.runStep_second (r := { q with window := window }) ho hrun]
            exact ⟨rfl, rfl, rfl⟩
          · rw [Station.runStep_first (r := { q with window := window }) ho hrun]
            exact ⟨h, rfl, rfl⟩
          · rw [Station.runStep_broken (r := { q with window := window }) ho]
            exact ⟨h, rfl, rfl⟩
          · rw [Station.runStep_tallies]
            exact hslips

/-! ## TALLY REQUEST (R166, R167) -/

theorem exec_tallyRequest (s : State) :
    exec .tallyRequest s = takeFrame (ofKind kindTallyRequest) (fun s f => s.tallyRequest f.frame) s := rfl

section
variable {s : State} {f : Frame}

theorem State.tallyRequest_ignored (h : ¬ (f.data ≠ [] ∧ f.target = s.pw.station ∧ s.peer.report = [])) :
    s.tallyRequest f = s := by
  unfold State.tallyRequest
  by_cases hlen : f.len = 0
  · exact if_pos hlen
  · by_cases htarget : f.target = s.pw.station
    · rw [if_neg hlen, if_neg (not_not_intro htarget)]
      refine if_neg fun hreport => h ⟨fun hnil => hlen (by rw [Frame.len, hnil]; rfl), htarget, ?_⟩
      simpa using hreport
    · rw [if_neg hlen]
      exact if_pos htarget

theorem State.tallyRequest_taken (hdata : f.data ≠ []) (htarget : f.target = s.pw.station) (hreport : s.peer.report = []) :
    s.tallyRequest f = s.takeSnapshot := by
  unfold State.tallyRequest
  rw [if_neg (show ¬ f.len = 0 from fun h => hdata (List.eq_nil_of_length_eq_zero h)), if_neg (not_not_intro htarget),
    if_pos (by simp [hreport])]

end

/-- The numbers of the stations seen, counted from `n` on. -/
theorem seenIndices_eq (rs : List Station) (n : Nat) :
    seenIndices rs n = ((List.range rs.length).filter (fun k => (rs[k]?.map Station.seen) == some true)).map (· + n) := by
  induction rs generalizing n with
  | nil => rfl
  | cons r rest ih =>
    have hshift : ((List.range (rest.length + 1)).filter fun k => ((r :: rest)[k]?.map Station.seen) == some true) =
        (if r.seen then [0] else []) ++
          ((List.range rest.length).filter fun k => (rest[k]?.map Station.seen) == some true).map (· + 1) := by
      rw [List.range_succ_eq_map, List.filter_cons, List.filter_map]
      cases hseen : r.seen <;> simp [hseen, Function.comp_def]
    rw [List.length_cons, hshift, List.map_append, List.map_map, seenIndices, ih (n + 1)]
    have hadd : ((fun k => k + n) ∘ fun k => k + 1) = (fun k => k + (n + 1)) := by
      funext k
      show k + 1 + n = k + (n + 1)
      omega
    rw [hadd]
    cases r.seen <;> simp

theorem reportParts_station {n : Nat} (h : n < 16) : reportParts n = [(n, 1), (n, 2)] := if_pos h

/-- The report sequence of at most 16 stations: two parts for each one seen, then the four of index 16. -/
theorem reportSequence_eq {rs : List Station} (h : rs.length ≤ 16) :
    reportSequence rs =
      ((List.range rs.length).filter (fun k => (rs[k]?.map Station.seen) == some true)).flatMap
        (fun n => [(n, 1), (n, 2)]) ++ [(16, 1), (16, 2), (16, 3), (16, 4)] := by
  unfold reportSequence
  have hplain : ∀ l : List Nat, l.map (fun k => k + 0) = l := fun l => List.map_id l
  rw [List.flatMap_append, seenIndices_eq, hplain]
  congr 1
  refine List.flatMap_congr fun n hn => reportParts_station ?_
  have hlt : n < rs.length := List.mem_range.mp (List.mem_filter.mp hn).1
  omega

/-- The sequence asks of a record only whether its station was seen. -/
theorem reportSequence_map {g : Station → Station} (hg : ∀ r, (g r).seen = r.seen) (rs : List Station) :
    reportSequence (rs.map g) = reportSequence rs := by
  have hseen : ∀ (l : List Station) (n : Nat), seenIndices (l.map g) n = seenIndices l n := by
    intro l
    induction l with
    | nil => exact fun n => rfl
    | cons r rest ih =>
      intro n
      rw [List.map_cons, seenIndices, seenIndices, hg, ih]
  unfold reportSequence
  rw [hseen]

/-- Settles O38: the requests that do nothing, and the snapshot with the first part of its sequence. -/
theorem tallyRequestFrame : Obligations.TallyRequestFrame := by
  unfold Obligations.TallyRequestFrame
  intro s f rest hstate hq hkind taken mine snap indices parts
  have hexec : exec .tallyRequest s = .next ((s.taken rest).tallyRequest f.frame).finish := by
    rw [exec_tallyRequest, takeFrame_applied hstate hq (ofKind_of (k := kindTallyRequest) hkind)]
  refine ⟨fun hother => ?_, fun hmine hlen hroom _ => ?_⟩
  · rw [hexec, State.tallyRequest_ignored (s := s.taken rest)]
    · rfl
    · rintro ⟨hdata, htarget, hreport⟩
      exact hother ⟨hdata, Frame.target_eq_iff.mp htarget, hreport⟩
  · obtain ⟨hdata, htarget, hreport⟩ := hmine
    obtain ⟨n, part, parts', hparts⟩ : ∃ n part parts', parts = (n, part) :: parts' := by
      cases h : parts with
      | nil => exact absurd h (by simp [parts])
      | cons p rest => exact ⟨p.1, p.2, rest, rfl⟩
    refine ⟨n, part, parts', hparts, ?_⟩
    rw [hexec, State.tallyRequest_taken (s := s.taken rest) hdata (Frame.target_eq_iff.mpr htarget) hreport,
      State.takeSnapshot]
    dsimp only
    have hsequence : reportSequence (s.peer.stations.map fun r => { r with tallies := StationTallies.zero }) =
        (n, part) :: parts' :=
      ((reportSequence_map (g := fun r => { r with tallies := StationTallies.zero }) (fun _ => rfl) s.peer.stations).trans (reportSequence_eq hlen)).trans hparts
    rw [hparts]
    refine congrArg (fun u : State => Host.Outcome.next u.finish) ((congrArg (sendReports · _) hsequence).trans ?_)
    exact sendReports_queued_part _ (Or.inl hroom)

end Sys2Proof.Machine
end

section
/-! PROOFS. The tone generator's own events (O44), an offer of a chime and its removal (O45). -/

namespace Sys2Proof.Machine

/-! ## The generator -/

theorem Chimes.playingClass_head {c : Chimes} {e : ChimeEntry} {q : List ChimeEntry} (hq : c.queue = e :: q)
    (hplaying : c.playing = some e.warning) : c.playingClass = some e.cls := by
  simp [Chimes.playingClass, hq, hplaying]

/-- The first step of a pattern, with the lengths of R107. -/
theorem stepLength_zero (k : Class) :
    stepLength k 0 = match k with
      | .a => 600
      | .b => 150
      | .c => 400 := by
  cases k <;> rfl

theorem stepLength_b {i : Nat} (h : i ≤ 5) : stepLength .b i = 150 := by
  match i, h with
  | 0, _ | 1, _ | 2, _ | 3, _ | 4, _ | 5, _ => rfl

theorem Chimes.passToHead_nil {c : Chimes} (now : Nat) (hmode : c.mode ≠ .silent) (hq : c.queue = []) :
    c.passToHead now = { queue := [], mode := .idle, playing := none, step := none, click := none } := by
  simp only [Chimes.passToHead, if_neg hmode, hq]

theorem Chimes.passToHead_cons {c : Chimes} (now : Nat) (hmode : c.mode ≠ .silent) {e : ChimeEntry} {q : List ChimeEntry}
    (hq : c.queue = e :: q) :
    c.passToHead now = { queue := e :: q, mode := .pattern, playing := some e.warning,
                         step := some { index := 0, ends := now + stepLength e.cls 0 }, click := none } := by
  simp only [Chimes.passToHead, if_neg hmode, hq]

theorem Chimes.passToHead_of_silent {c : Chimes} (now : Nat) (hmode : c.mode = .silent) : c.passToHead now = c := by
  rw [Chimes.passToHead, if_pos hmode]

/-! ## Reports to the Warning Unit -/

theorem WarnCfg.isEdge_iff {c : WarnCfg} : c.isEdge = true ↔ c.trigger ≠ .level := by simp [WarnCfg.isEdge]

/-- R92: a report ends an edge entry in ACTIVE. -/
theorem State.chimeReport_edge {s : State} {n : Nat} {w : Warning} (h : s.warn.entry n = some w)
    (hedge : w.cfg.trigger ≠ .level) (hactive : w.state = .active) :
    s.chimeReport n = { s with warn := s.warn.setEntry n { w with state := .quiet } } := by
  have hcond : (w.cfg.isEdge && w.state == .active) = true := by simp [WarnCfg.isEdge, hedge, hactive]
  simp only [State.chimeReport, h]
  rw [if_pos hcond]
  rfl

theorem State.chimeReport_kept {s : State} {n : Nat}
    (h : ∀ w, s.warn.entry n = some w → w.cfg.trigger = .level ∨ w.state ≠ .active) : s.chimeReport n = s := by
  unfold State.chimeReport
  split
  · rename_i w hw
    rw [if_neg]
    rw [Bool.and_eq_true, WarnCfg.isEdge_iff, beq_iff_eq]
    exact fun ⟨hedge, hactive⟩ => (h w hw).elim hedge fun hne => hne hactive
  · rfl

/-! ## The events -/

theorem execPatternStepEnd_eq {s : State} {k : Class} {st : PatternStep} (hmode : s.chime.mode = .pattern)
    (hcls : s.chime.playingClass = some k) (hstep : s.chime.step = some st) (hlast : lastStep k ≠ some st.index) :
    exec .patternStepEnd s = .next (State.finish
      { s with pw := { s.pw with time := max s.pw.time st.ends }
               chime := { s.chime with
                 step := some { index := nextStep k st.index, ends := st.ends + stepLength k (nextStep k st.index) } } }) := by
  show execPatternStepEnd s = _
  simp only [execPatternStepEnd, hmode, hcls, hstep]
  rw [if_neg hlast]
  rfl

theorem execPatternEnd_eq {s : State} {k : Class} {st : PatternStep} {w : Nat} (hmode : s.chime.mode = .pattern)
    (hplaying : s.chime.playing = some w) (hcls : s.chime.playingClass = some k) (hstep : s.chime.step = some st)
    (hlast : lastStep k = some st.index) :
    exec .patternEnd s = .next (State.finish (State.chimeReport
      { s with pw := { s.pw with time := max s.pw.time st.ends }
               chime := ({ s.chime with queue := chimeWithout s.chime.queue w } : Chimes).passToHead
                 (max s.pw.time st.ends) } w)) := by
  show execPatternEnd s = _
  simp only [execPatternEnd, hmode, hplaying, hcls, hstep]
  rw [if_pos hlast]
  simp only [State.advanceTo_chime, hmode, hplaying, hstep]
  rfl

/-- What the generator plays once the head's pattern has ended (R108). -/
def Chimes.afterHead (left : List ChimeEntry) (now : Nat) : Chimes :=
  match left with
  | [] => { queue := [], mode := .idle, playing := none, step := none, click := none }
  | h :: more =>
    { queue := h :: more, mode := .pattern, playing := some h.warning, click := none
      step := some { index := 0, ends := now + match h.cls with
        | .a => 600
        | .b => 150
        | .c => 400 } }

theorem Chimes.passToHead_eq_afterHead {c : Chimes} (now : Nat) (hmode : c.mode ≠ .silent) :
    c.passToHead now = Chimes.afterHead c.queue now := by
  cases hq : c.queue with
  | nil => exact Chimes.passToHead_nil now hmode hq
  | cons h more =>
    rw [Chimes.passToHead_cons now hmode hq, stepLength_zero]
    rfl

theorem chimeWithout_head (e : ChimeEntry) (q : List ChimeEntry) :
    chimeWithout (e :: q) e.warning = q.filter (fun x => x.warning != e.warning) := by
  simp [chimeWithout]

/-- Settles O44: the generator's state decides each event, and the playing class is that of the head. -/
theorem toneEvents : Obligations.ToneEvents := by
  unfold Obligations.ToneEvents
  intro s
  refine ⟨fun c hmode hclick => ⟨?second, ?endPair, ?endClick⟩, ?pattern⟩
  case second =>
    intro hrefusal hsecond
    show execSecondClick s = _
    simp only [execSecondClick, hclick]
    rw [if_pos ⟨hmode, hrefusal, hsecond⟩]
    cases c
    cases hrefusal
    rfl
  case endPair =>
    intro hrefusal hsecond
    show execClickEnd s = _
    simp only [execClickEnd, hclick]
    rw [if_pos ⟨hmode, fun _ => hsecond⟩, Click.ends, if_pos hrefusal]
    rfl
  case endClick =>
    intro hrefusal
    show execClickEnd s = _
    simp only [execClickEnd, hclick]
    rw [if_pos ⟨hmode, fun h => absurd h (by simp [hrefusal])⟩, Click.ends, if_neg (by simp [hrefusal])]
    rfl
  case pattern =>
    intro e q st hmode hq hplaying hstep
    dsimp only
    have hcls := Chimes.playingClass_head hq hplaying
    refine ⟨fun ha hindex => ?_, fun ha hindex => ?_, fun hb hindex => ?_, fun hlast => ?_⟩
    · rw [ha] at hcls
      rw [execPatternStepEnd_eq hmode hcls hstep (by simp [lastStep]), hindex]
      rfl
    · rw [ha] at hcls
      rw [execPatternStepEnd_eq hmode hcls hstep (by simp [lastStep]), hindex]
      rfl
    · rw [hb] at hcls
      rw [execPatternStepEnd_eq hmode hcls hstep (by simp [lastStep]; omega), nextStep, stepLength_b (by omega)]
    · have hlast : lastStep e.cls = some st.index := by
        obtain ⟨hk, hi⟩ | ⟨hk, hi⟩ := hlast <;> rw [hk, hi] <;> rfl
      have hnext : (({ s.chime with queue := chimeWithout s.chime.queue e.warning } : Chimes).passToHead
          (max s.pw.time st.ends)) =
            Chimes.afterHead (q.filter (fun x => x.warning != e.warning)) (max s.pw.time st.ends) := by
        rw [Chimes.passToHead_eq_afterHead _ (by simp [hmode])]
        dsimp only
        rw [hq, chimeWithout_head]
      have hend := execPatternEnd_eq hmode hplaying hcls hstep hlast
      rw [hnext] at hend
      refine ⟨fun w hw hedge hactive => ?_, fun hkept => ?_⟩
      · refine hend.trans (congrArg (fun u : State => Host.Outcome.next u.finish) ?_)
        exact State.chimeReport_edge hw hedge hactive
      · refine hend.trans (congrArg (fun u : State => Host.Outcome.next u.finish) ?_)
        exact State.chimeReport_kept hkept

/-! ## An offer -/

theorem Chimes.offer_room {c : Chimes} (now : Nat) {w : Nat} (k : Class) (hnew : c.holds w = false)
    (hroom : c.queue.length < 8) :
    c.offer now w k =
      { chime := (c.insert now w k).1, reports := (c.insert now w k).2, displaced := false } := by
  unfold Chimes.offer
  rw [if_neg (by simp [hnew]), if_pos (show c.queue.length < chimeCapacity from hroom)]

theorem Chimes.offer_refused {c : Chimes} (now : Nat) {w : Nat} {k : Class} (hnew : c.holds w = false)
    (hfull : 8 ≤ c.queue.length) (hrank : ∀ x ∈ c.queue, x.cls.rank ≤ k.rank) :
    c.offer now w k = { chime := c, reports := [], displaced := true } := by
  unfold Chimes.offer
  rw [if_neg (by simp [hnew]), if_neg (show ¬ c.queue.length < chimeCapacity from Nat.not_lt.mpr hfull)]
  split
  · rfl
  · rename_i last hlast
    rw [if_neg (Nat.not_lt.mpr (hrank last (List.mem_of_getLast? hlast)))]

theorem Chimes.offer_displaces {c : Chimes} (now : Nat) {w : Nat} {k : Class} {front : List ChimeEntry} {last : ChimeEntry}
    (hnew : c.holds w = false) (hfull : 8 ≤ c.queue.length) (hq : c.queue = front ++ [last])
    (hrank : k.rank < last.cls.rank) :
    c.offer now w k =
      { chime := (({ c with queue := front } : Chimes).insert now w k).1
        reports := last.warning :: (({ c with queue := front } : Chimes).insert now w k).2, displaced := true } := by
  unfold Chimes.offer
  have hlast : c.queue.getLast? = some last := by simp [hq]
  have hfront : c.queue.dropLast = front := by simp [hq]
  rw [if_neg (by simp [hnew]), if_neg (show ¬ c.queue.length < chimeCapacity from Nat.not_lt.mpr hfull), hlast]
  dsimp only
  rw [if_pos hrank, hfront]

/-- A newcomer behind another entry changes the queue alone (R103). -/
theorem Chimes.insert_behind {c : Chimes} (now : Nat) {w : Nat} {k : Class}
    (h : (chimeInsert { warning := w, cls := k } c.queue).head? ≠ some { warning := w, cls := k }) :
    c.insert now w k = ({ c with queue := chimeInsert { warning := w, cls := k } c.queue }, []) := by
  unfold Chimes.insert
  dsimp only
  rw [if_neg h]

/-- A newcomer better than all others is the head. -/
theorem chimeInsert_first {e : ChimeEntry} {q : List ChimeEntry} (h : ∀ x ∈ q, e.cls.rank < x.cls.rank) :
    chimeInsert e q = e :: q := by
  cases q with
  | nil => rfl
  | cons x rest => rw [chimeInsert, if_pos (h x List.mem_cons_self)]

/-- The sequencer with a newcomer at the head of its queue. -/
def Chimes.joined (c : Chimes) (e : ChimeEntry) : Chimes := { c with queue := e :: c.queue }

theorem Chimes.insert_first {c : Chimes} (now : Nat) {w : Nat} {k : Class} (h : ∀ x ∈ c.queue, k.rank < x.cls.rank) :
    c.insert now w k = (c.joined { warning := w, cls := k }).newHead now := by
  unfold Chimes.insert
  rw [chimeInsert_first (e := { warning := w, cls := k }) h]
  exact if_pos rfl

/-- No pattern is preempted, or one that stays in the queue (R109). -/
theorem Chimes.newHead_passes {c : Chimes} (now : Nat)
    (h : c.mode = .pattern → c.playing ≠ none → c.playingClass ≠ some .c) : c.newHead now = (c.passToHead now, []) := by
  unfold Chimes.newHead
  split
  · rename_i hmode hplaying hcls
    exact absurd hcls (h hmode (by simp [hplaying]))
  · rfl

/-- A class C entry that is preempted leaves the queue with a report (R109). -/
theorem Chimes.newHead_cuts {c : Chimes} (now : Nat) {w : Nat} (hmode : c.mode = .pattern) (hplaying : c.playing = some w)
    (hcls : c.playingClass = some .c) :
    c.newHead now = (({ c with queue := chimeWithout c.queue w } : Chimes).passToHead now, [w]) := by
  simp only [Chimes.newHead, hmode, hplaying, hcls]

/-- The class of a playing entry that stands second, behind a newcomer of another warning. -/
theorem Chimes.playingClass_second {c : Chimes} {new e : ChimeEntry} {q : List ChimeEntry} (hq : c.queue = new :: e :: q)
    (hplaying : c.playing = some e.warning) (hne : new.warning ≠ e.warning) : c.playingClass = some e.cls := by
  simp [Chimes.playingClass, hq, hplaying, hne]

/-- The newcomer stays whatever its coming removes: what is preempted is of class C, and so not of the newcomer's class. -/
theorem Chimes.insert_mem {c : Chimes} (now : Nat) {w : Nat} {k : Class} (hk : k ≠ .c) :
    { warning := w, cls := k } ∈ (c.insert now w k).1.queue := by
  unfold Chimes.insert
  dsimp only
  split
  · rename_i hhead
    unfold Chimes.newHead
    split
    · rename_i v hmode hplaying hcls
      have hne : w ≠ v := by
        rintro rfl
        obtain ⟨rest, hq⟩ := List.head?_eq_some_iff.mp hhead
        rw [Chimes.playingClass_head (e := { warning := w, cls := k }) hq hplaying] at hcls
        exact hk (Option.some.inj hcls)
      rw [passToHead_queue]
      exact List.mem_filter.mpr ⟨(mem_chimeInsert _ _ _).mpr (.inl rfl), by simpa using hne⟩
    · rw [passToHead_queue]
      exact (mem_chimeInsert _ _ _).mpr (.inl rfl)
  · exact (mem_chimeInsert _ _ _).mpr (.inl rfl)

theorem Chimes.insert_subset {c : Chimes} (now w : Nat) (k : Class) {x : ChimeEntry} (h : x ∈ (c.insert now w k).1.queue) :
    x = { warning := w, cls := k } ∨ x ∈ c.queue := by
  rw [← mem_chimeInsert]
  obtain ⟨hq, -⟩ | ⟨v, hq, -⟩ := c.insert_queue now w k
  · rwa [hq] at h
  · rw [hq] at h
    exact (chimeWithout_sublist _ _).subset h

/-- Every entry is behind no better class than A, and class C is the worst. -/
theorem Class.rank_lt_ne_c {k l : Class} (h : k.rank < l.rank) : k ≠ .c := by
  rintro rfl
  cases l <;> simp [Class.rank] at h

/-! ## A removal -/

theorem Chimes.remove_held {c : Chimes} (now : Nat) {w : Nat} (h : c.holds w = true) :
    c.remove now w =
      if c.mode = .pattern ∧ c.playing = some w then
        ({ c with queue := chimeWithout c.queue w } : Chimes).passToHead now
      else { c with queue := chimeWithout c.queue w } := by
  unfold Chimes.remove
  rw [if_pos h]

/-- Settles O45: a newcomer stands behind its class, and only one at the head changes what the generator plays. -/
theorem chimeOffer : Obligations.ChimeOffer := by
  unfold Obligations.ChimeOffer
  refine ⟨fun c now w k hsorted => ?_, fun c now w => ?_⟩
  · dsimp only
    refine ⟨offer_held c now w k, Chimes.offer_refused now, fun hnew hroom hsome => ?behind,
      fun front last hnew hfull hq hrank => ?displaced, fun hnew hroom hfirst hmode hhead => ?first,
      fun hnew hroom hfirst hmode => ?silent⟩
    case behind =>
      obtain ⟨front, back, hq, hinsert, hfront, hback⟩ :=
        chimeInsert_sorted_split (e := { warning := w, cls := k }) hsorted
      obtain ⟨x, hx, hrank⟩ := hsome
      have hhead : (chimeInsert { warning := w, cls := k } c.queue).head? ≠ some { warning := w, cls := k } := by
        cases front with
        | nil => exact absurd (hback x (by simpa [hq] using hx)) (Nat.not_lt.mpr hrank)
        | cons y rest =>
          rw [hinsert]
          intro heq
          have hy : y = { warning := w, cls := k } := Option.some.inj heq
          have hmem : y ∈ c.queue := hq ▸ List.mem_cons_self
          exact Chimes.holds_eq_false.mp hnew (List.mem_map.mpr ⟨y, hmem, congrArg ChimeEntry.warning hy⟩)
      rw [Chimes.offer_room now k hnew hroom, Chimes.insert_behind now hhead, hinsert]
      exact ⟨rfl, rfl, front, back, hq, rfl, hfront, hback⟩
    case displaced =>
      rw [Chimes.offer_displaces now hnew hfull hq hrank]
      exact ⟨rfl, List.mem_cons_self, Chimes.insert_mem now (Class.rank_lt_ne_c hrank),
        fun x hx => Chimes.insert_subset (c := { c with queue := front }) now w k hx⟩
    case first =>
      rw [Chimes.offer_room now k hnew hroom, Chimes.insert_first now hfirst]
      by_cases hpattern : c.mode = .pattern
      · obtain ⟨e, q, hq, hplaying⟩ := hhead hpattern
        have hne : w ≠ e.warning := fun heq =>
          Chimes.holds_eq_false.mp hnew (List.mem_map.mpr ⟨e, by simp [hq], heq.symm⟩)
        have hcls := Chimes.playingClass_second
          (c := c.joined { warning := w, cls := k }) (e := e) (q := q) (congrArg _ hq) hplaying hne
        have hrank : k.rank < e.cls.rank := hfirst e (by simp [hq])
        by_cases hc : e.cls = .c
        · rw [Chimes.newHead_cuts (c := c.joined _) now hpattern hplaying (hcls.trans (congrArg some hc))]
          have hwithout : chimeWithout (c.joined { warning := w, cls := k }).queue e.warning =
              { warning := w, cls := k } :: q.filter (fun x => x.warning != e.warning) := by
            rw [Chimes.joined, hq, chimeWithout, List.filter_cons_of_pos (by simpa using hne)]
            exact congrArg _ (chimeWithout_head e q)
          rw [Chimes.passToHead_cons (c := { c.joined _ with queue := chimeWithout (c.joined _).queue _ }) now hmode hwithout]
          refine ⟨rfl, rfl, rfl, rfl, rfl, fun _ e' q' hq' _ _ => ?_, fun _ e' q' hq' _ hb => ?_,
            fun h => absurd hpattern h⟩
          · obtain ⟨rfl, rfl⟩ := List.cons.inj (hq.symm.trans hq')
            exact ⟨rfl, rfl⟩
          · obtain ⟨rfl, rfl⟩ := List.cons.inj (hq.symm.trans hq')
            exact absurd (hc.symm.trans hb) (by simp)
        · rw [Chimes.newHead_passes now fun _ _ h => hc (Option.some.inj (hcls.symm.trans h)),
            Chimes.passToHead_cons (c := c.joined _) now hmode rfl]
          refine ⟨rfl, rfl, rfl, rfl, rfl, fun _ e' q' hq' _ h => ?_, fun _ _ _ _ _ _ => ⟨rfl, rfl⟩,
            fun _ => ⟨rfl, rfl⟩⟩
          obtain ⟨rfl, rfl⟩ := List.cons.inj (hq.symm.trans hq')
          exact absurd h hc
      · rw [Chimes.newHead_passes (c := c.joined _) now fun h => absurd h hpattern,
          Chimes.passToHead_cons (c := c.joined _) now hmode rfl]
        exact ⟨rfl, rfl, rfl, rfl, rfl, fun h => absurd h hpattern, fun h => absurd h hpattern, fun _ => ⟨rfl, rfl⟩⟩
    case silent =>
      rw [Chimes.offer_room now k hnew hroom, Chimes.insert_first now hfirst,
        Chimes.newHead_passes (c := c.joined _) now fun h => absurd (hmode.symm.trans h) (by simp),
        Chimes.passToHead_of_silent (c := c.joined _) now hmode]
      rfl
  · dsimp only
    refine ⟨by simp [Chimes.holds], fun h => ?_, fun h hnot => ?_, fun h hmode hplaying => ⟨fun hnil => ?_, fun e q hq => ?_⟩⟩
    · rw [Chimes.remove, if_neg (by simp [h])]
    · rw [Chimes.remove_held now h, if_neg hnot]
      rfl
    · rw [Chimes.remove_held now h, if_pos ⟨hmode, hplaying⟩]
      exact Chimes.passToHead_nil now (by simp [hmode]) hnil
    · rw [Chimes.remove_held now h, if_pos ⟨hmode, hplaying⟩]
      exact (Chimes.passToHead_eq_afterHead now (by simp [hmode])).trans (congrArg (Chimes.afterHead · now) hq)

end Sys2Proof.Machine
end

section
/-! PROOFS. The writes to the serial memory (O46). -/

namespace Sys2Proof.Machine

theorem writeMayBegin_iff {s : State} :
    writeMayBegin s = true ↔ s.pw.writing = none ∧ s.pw.queue ≠ [] ∧
      (s.pw.state = .stabilise ∨ s.pw.state = .standby ∨ s.pw.state = .active ∨ s.pw.state = .crank) := by
  simp [writeMayBegin, or_assoc, and_assoc]

/-- R179: the ODOMETER entry goes before all others, otherwise the oldest. -/
theorem nextWrite_eq {q : List WriteEntry} {e : WriteEntry}
    (h : q.find? (fun x => x.key == .odometer) = some e ∨
      (q.find? (fun x => x.key == .odometer) = none ∧ q.head? = some e)) : nextWrite q = some e := by
  unfold nextWrite
  obtain h | ⟨hnone, hhead⟩ := h
  · rw [h]
  · rw [hnone]
    exact hhead

theorem execWriteBegin_eq {s : State} {e : WriteEntry} (hmay : writeMayBegin s = true)
    (hnext : nextWrite s.pw.queue = some e) :
    execWriteBegin s = .next (State.finish
      { s with pw := { s.pw with queue := s.pw.queue.filter (fun x => x.key != e.key)
                                 writing := some (writeJob e s.acc.slot) } }) := by
  unfold execWriteBegin
  rw [if_pos hmay, hnext]
  rfl

/-- The part once the words of a write stand in the memory (R179). -/
def State.written (s : State) (j : WriteJob) : State :=
  { s with pw := { s.pw with writing := none }, mem := memWriteAll s.mem j.base j.data }

theorem execWriteComplete_eq {s : State} {j : WriteJob} (hj : s.pw.writing = some j)
    (hfits : j.base + j.data.length ≤ memoryWords) :
    execWriteComplete s = .next ((s.written j).writeEnded j).finish := by
  simp only [execWriteComplete, hj]
  rw [if_neg (Nat.not_lt.mpr hfits)]
  rfl

/-- Who is told of a write changes the slot index and the transmit queue at most. -/
theorem State.writeEnded_frame (s : State) (j : WriteJob) :
    (s.writeEnded j).pins = s.pins ∧ (s.writeEnded j).mem = s.mem ∧ (s.writeEnded j).cal = s.cal ∧
      (s.writeEnded j).pw = s.pw ∧ (s.writeEnded j).sig = s.sig ∧ (s.writeEnded j).trip = s.trip ∧
      (s.writeEnded j).gauges = s.gauges ∧ (s.writeEnded j).chime = s.chime ∧ (s.writeEnded j).service = s.service ∧
      (s.writeEnded j).readout = s.readout ∧ (s.writeEnded j).pending = s.pending := by
  unfold State.writeEnded
  split <;> simp [State.calReply]

theorem State.writeEnded_odometer {s : State} {j : WriteJob} (h : j.key = .odometer) :
    (s.writeEnded j).acc = { s.acc with slot := some j.target } := by
  simp [State.writeEnded, h]

theorem State.writeEnded_acc {s : State} {j : WriteJob} (h : j.key ≠ .odometer) : (s.writeEnded j).acc = s.acc := by
  unfold State.writeEnded
  split
  · contradiction
  · simp [State.calReply]
  · rfl
  · rfl
  · rfl

/-- R181: the result of a calibration write is DONE. -/
theorem State.writeEnded_calWord {s : State} {j : WriteJob} {a : Nat} (h : j.key = .calWord a)
    (hroom : s.line.tx.length < 8) :
    (s.writeEnded j).line = { s.line with
      tx := (txRequest s.line.tx kindCalReply (some a) [byteOf a 1, byteOf a 0, 3#8]).queue } := by
  obtain ⟨hline, -⟩ := s.sendFrame_line_peer kindCalReply (some a) [byteOf a 1, byteOf a 0, 3#8]
  rw [State.sendFrame_tx hroom] at hline
  have hended : s.writeEnded j = s.sendFrame kindCalReply (some a) [byteOf a 1, byteOf a 0, 3#8] := by
    simp only [State.writeEnded, h]
    rfl
  rw [hended]
  exact hline

theorem State.writeEnded_line {s : State} {j : WriteJob} (h : ∀ a, j.key ≠ .calWord a) :
    (s.writeEnded j).line = s.line := by
  unfold State.writeEnded
  split
  · rfl
  · rename_i a ha
    exact absurd ha (h a)
  · rfl
  · rfl
  · rfl

/-- Settles O46: the next write by its key, and its words at their addresses once it completes. -/
theorem writes : Obligations.Writes := by
  unfold Obligations.Writes
  intro s
  refine ⟨fun hstate hwriting e hnext => ?_, fun j hj hfits hmem => ?_, fun j hj hout => ?_⟩
  · intro slot base
    have hnext := nextWrite_eq hnext
    have hmay : writeMayBegin s = true :=
      writeMayBegin_iff.mpr ⟨hwriting, List.ne_nil_of_mem (nextWrite_mem hnext), hstate⟩
    have hslot : targetSlot s.acc.slot = slot := by
      unfold targetSlot
      rfl
    have hbase : writeBase e.key slot = base := by
      unfold writeBase
      rfl
    have hjob : writeJob e s.acc.slot = { key := e.key, base := base, data := e.data, target := slot } := by
      rw [← hbase, ← hslot]
      rfl
    rw [← hjob]
    exact execWriteBegin_eq hmay hnext
  · obtain ⟨lamps, timer, stage, hfinish⟩ := ((s.written j).writeEnded j).finish_parts
    obtain ⟨hpins, hmem', hcal, hpw, hsig, htrip, hgauges, hchime, hservice, hreadout, hpending⟩ :=
      (s.written j).writeEnded_frame j
    refine ⟨_, execWriteComplete_eq hj hfits, ?_⟩
    rw [hfinish]
    dsimp only
    rw [hmem', hpw]
    exact ⟨memWf_memWriteAll hmem _ _, rfl,
      fun n hn => by
        rw [List.getElem?_eq_getElem hn]
        exact congrArg some (memRead_memWriteAll_inside hmem j.base n j.data hn),
      fun a ha => memRead_memWriteAll_other s.mem j.base a j.data ha,
      State.writeEnded_odometer, State.writeEnded_acc, fun a ha hroom => State.writeEnded_calWord (s := s.written j) ha hroom, State.writeEnded_line,
      hpins, hcal, hsig, htrip, hgauges, hchime, hservice, hreadout, rfl, rfl, hpending⟩
  · show execWriteComplete s = _
    simp only [execWriteComplete, hj]
    rw [if_pos (show memoryWords < j.base + j.data.length from hout)]

end Sys2Proof.Machine
end

section
/-! PROOFS. The states of the service items, the restart of a record, the three latches (O51). -/

namespace Sys2Proof.Machine

/-! ## Service measures and items (R120) -/

/-- The bounds between the states of an enabled measure. -/
theorem measureState_iff {i : Nat} (m u : Nat) (hi : 0 < i) :
    (measureState i m u = .overdue ↔ i + i / 10 ≤ u) ∧ (measureState i m u = .due ↔ i ≤ u ∧ u < i + i / 10) ∧
      (measureState i m u = .soon ↔ u < i ∧ i ≤ u + m) ∧ (measureState i m u = .ok ↔ u < i ∧ u + m < i) := by
  unfold measureState
  rw [if_neg (by omega)]
  split
  · simp; omega
  · split
    · simp; omega
    · split
      · simp; omega
      · simp; omega

theorem measureState_off (m u : Nat) : measureState 0 m u = .ok := if_pos rfl

theorem worseState_rank (x y : ServiceState) : (worseState x y).rank = max x.rank y.rank := by
  unfold worseState
  split <;> omega

theorem ServiceState.rank_inj {x y : ServiceState} : x.rank = y.rank ↔ x = y := by
  cases x <;> cases y <;> decide

theorem ServiceState.rank_le (x : ServiceState) : x.rank ≤ 3 := by
  cases x <;> decide

/-- The worst of three states, by rank. -/
theorem worst_eq_iff (x y z s : ServiceState) :
    worseState (worseState x y) z = s ↔ max (max x.rank y.rank) z.rank = s.rank := by
  rw [← ServiceState.rank_inj, worseState_rank, worseState_rank]

/-! ## The three latches (R84) -/

theorem latchNext_clear (set clear : Bool) : latchNext false set clear = set := by
  cases set <;> rfl

theorem latchNext_set {set clear : Bool} : latchNext true set clear = false ↔ clear = true := by
  cases clear <;> simp [latchNext]

/-- Settles O51: measures and items by rank, a record by its three bounds, each latch by its set and clear conditions. -/
theorem itemsRecordsLatches : Obligations.ItemsRecordsLatches := by
  unfold Obligations.ItemsRecordsLatches
  refine ⟨fun i m u => measureState_iff m u, measureState_off, fun x odo day hours => ?items, fun r snap d f e => ?record,
    fun c t latch => ?fuelLow, fun c t latch => ?coolantHot, fun limit speed t latch => ?overspeed⟩
  case items =>
    intro km days hrs worst
    have hworst (s : ServiceState) : worst = s ↔ max (max km.rank days.rank) hrs.rank = s.rank := worst_eq_iff km days hrs s
    have hkm := km.rank_le
    have hdays := days.rank_le
    have hhrs := hrs.rank_le
    simp only [hworst, ne_eq, ← ServiceState.rank_inj, show ServiceState.overdue.rank = 3 from rfl,
      show ServiceState.due.rank = 2 from rfl, show ServiceState.ok.rank = 0 from rfl]
    refine ⟨?_, ?_, ?_⟩ <;> omega
  case record =>
    refine ⟨fun hd hf he => if_pos ⟨hd, hf, he⟩, fun hover => if_neg ?_⟩
    rintro ⟨hd, hf, he⟩
    simp only [maxDist, maxFuel, maxElapsed] at hd hf he
    omega
  case fuelLow =>
    refine ⟨fun h => by simp [fuelLowNext, fuelRemaining, h], fun h => ?_⟩
    intro ml
    have hnext : fuelLowNext c t latch =
        latchNext latch (decide (ml < c.lowLevel * 100)) (decide (c.lowLevel * 100 + 2000 ≤ ml)) := by
      simp only [fuelLowNext, fuelRemaining, h, if_true]
      rfl
    refine ⟨?_, ?_⟩
    · rintro rfl
      rw [hnext, latchNext_clear, decide_eq_true_eq]
    · rintro rfl
      rw [hnext, latchNext_set, decide_eq_true_eq]
  case coolantHot =>
    unfold coolantHotNext
    rw [← Freshness.held_iff]
    refine ⟨fun h => by simp [h], fun h hlatch => ?_, fun h hlatch => ?_⟩
    · rw [h, hlatch, Bool.true_and, latchNext_clear, decide_eq_true_eq]
    · rw [h, hlatch, Bool.true_and, latchNext_set, decide_eq_true_eq]
  case overspeed =>
    unfold overspeedNext
    rw [← Freshness.held_iff]
    refine ⟨fun h => ?_, fun h hlimit hlatch => ?_, fun h hlimit hlatch => ?_⟩
    · obtain h | h := h <;> simp [h]
    · rw [h, hlatch, decide_eq_true hlimit, Bool.true_and, Bool.true_and, latchNext_clear, decide_eq_true_eq]
    · rw [h, hlatch, decide_eq_true hlimit, Bool.true_and, Bool.true_and, latchNext_set, decide_eq_true_eq]

end Sys2Proof.Machine
end

section
/-! PROOFS. The figures of the readouts as rows of characters (R134, R137). -/

namespace Sys2Proof.Machine

/-! ## Decimal digits -/

/-- A number right-justified in a field, digit by digit: blanks before its first digit. -/
def digitsField (w n : Nat) : Text :=
  match w with
  | 0 => []
  | v + 1 => (if n < 10 then List.replicate v ' ' else digitsField v (n / 10)) ++ [digitChar n]

@[simp] theorem digitsField_length (w n : Nat) : (digitsField w n).length = w := by
  induction w generalizing n with
  | zero => rfl
  | succ v ih =>
    unfold digitsField
    split <;> simp [ih]

theorem padLeft_append (w : Nat) (x y : Text) : padLeft (w + y.length) (x ++ y) = padLeft w x ++ y := by
  simp [padLeft, Nat.add_sub_add_right]

/-- The digits of a number fill the field from the right, whatever fuel above its width they are formed with. -/
theorem padLeft_decimalDigits {w f n : Nat} (hw : w < f) (hn : n < 10 ^ (w + 1)) :
    padLeft (w + 1) (decimalDigits f n) = digitsField (w + 1) n := by
  induction w generalizing f n with
  | zero =>
    obtain ⟨g, rfl⟩ := Nat.exists_eq_succ_of_ne_zero hw.ne'
    have hn : n < 10 := by simpa using hn
    simp [decimalDigits, digitsField, hn, padLeft]
  | succ v ih =>
    obtain ⟨g, rfl⟩ := Nat.exists_eq_succ_of_ne_zero (Nat.ne_zero_of_lt hw)
    rw [decimalDigits, digitsField]
    split
    · simp [padLeft]
    · have hlast : padLeft (v + 1 + 1) (decimalDigits g (n / 10) ++ [digitChar n]) =
          padLeft (v + 1) (decimalDigits g (n / 10)) ++ [digitChar n] := padLeft_append (v + 1) _ [digitChar n]
      rw [hlast, ih (by omega) (by rw [Nat.pow_succ] at hn; omega)]

theorem padLeft_showNat {w n : Nat} (hw : w < 12) (hn : n < 10 ^ (w + 1)) :
    padLeft (w + 1) (showNat n) = digitsField (w + 1) n := padLeft_decimalDigits hw hn

/-- One digit of the field, counted from the right. -/
theorem digitsField_getElem? {w n k : Nat} (hk : k < w) :
    (digitsField w n)[w - 1 - k]? = some (if 1 ≤ k ∧ n < 10 ^ k then ' ' else digitChar (n / 10 ^ k)) := by
  induction w generalizing n k with
  | zero => omega
  | succ v ih =>
    rw [digitsField]
    have hlength : (if n < 10 then List.replicate v ' ' else digitsField v (n / 10)).length = v := by split <;> simp
    cases k with
    | zero => simp [hlength]
    | succ j =>
      have hindex : v + 1 - 1 - (j + 1) = v - 1 - j := by omega
      rw [List.getElem?_append_left (by omega), hindex]
      have hpow : n < 10 ^ (j + 1) ↔ n / 10 < 10 ^ j := by
        rw [Nat.pow_succ, Nat.div_lt_iff_lt_mul (by omega)]
      split
      · rename_i hten
        have hone : 0 < 10 ^ j := Nat.pow_pos (by omega)
        rw [if_pos ⟨by omega, hpow.mpr (by omega)⟩, List.getElem?_replicate, if_pos (by omega)]
      · rename_i hten
        rw [ih (by omega), Nat.div_div_eq_div_mul, ← Nat.pow_succ']
        congr 1
        refine ite_congr (propext ?_) (fun _ => rfl) (fun _ => rfl)
        rw [hpow]
        constructor
        · exact fun ⟨_, h⟩ => ⟨by omega, h⟩
        · rintro ⟨-, h⟩
          refine ⟨?_, h⟩
          by_contra hj
          obtain rfl : j = 0 := by omega
          rw [Nat.pow_zero] at h
          omega

/-! ## The rows of the statement -/

/-- A decimal digit as a character. -/
def digitOf (n : Nat) : Char := Char.ofNat (48 + n)

theorem digitChar_mod (n : Nat) : digitChar n = digitOf (n % 10) := rfl

theorem digitChar_lt {n : Nat} (h : n < 10) : digitChar n = digitOf n := by
  rw [digitChar_mod, Nat.mod_eq_of_lt h]

/-- A whole number in five characters. -/
def wholeRow (n : Nat) : List Char :=
  [if n < 10000 then ' ' else digitOf (n / 10000), if n < 1000 then ' ' else digitOf (n / 1000 % 10),
   if n < 100 then ' ' else digitOf (n / 100 % 10), if n < 10 then ' ' else digitOf (n / 10 % 10), digitOf (n % 10)]

/-- A number of tenths in five characters. -/
def tenthsRow (n : Nat) : List Char :=
  if n < 10000 then
    [if n < 1000 then ' ' else digitOf (n / 1000), if n < 100 then ' ' else digitOf (n / 100 % 10),
     digitOf (n / 10 % 10), '.', digitOf (n % 10)]
  else wholeRow (n / 10)

/-- An unavailable figure. -/
def dashedRow : List Char := [' ', ' ', '-', '-', '-']

/-- A figure in tenths that may be unavailable. -/
def optionalRow (o : Option Nat) : List Char :=
  match o with
  | some x => tenthsRow x
  | none => dashedRow

/-- A signed number in five characters. -/
def signedRow (v : Int) : List Char :=
  if 0 ≤ v then wholeRow v.toNat
  else if -10 < v then [' ', ' ', ' ', '-', digitOf v.natAbs]
  else if -100 < v then [' ', ' ', '-', digitOf (v.natAbs / 10), digitOf (v.natAbs % 10)]
  else if -1000 < v then
    [' ', '-', digitOf (v.natAbs / 100), digitOf (v.natAbs / 10 % 10), digitOf (v.natAbs % 10)]
  else
    ['-', digitOf (v.natAbs / 1000), digitOf (v.natAbs / 100 % 10), digitOf (v.natAbs / 10 % 10), digitOf (v.natAbs % 10)]

/-- A time in hours and minutes in five characters. -/
def timeRow (e : Nat) : List Char :=
  [if e < 36000 then ' ' else digitOf (e / 36000), digitOf (e / 3600 % 10), ':', digitOf (e % 3600 / 600),
   digitOf (e % 3600 / 60 % 10)]

theorem padLeft_two {n : Nat} (h : n < 100) :
    padLeft 2 (showNat n) = [if n < 10 then ' ' else digitOf (n / 10), digitOf (n % 10)] := by
  rw [padLeft_showNat (w := 1) (by omega) (by omega)]
  simp only [digitsField, digitChar_mod]
  split <;> simp [Nat.mod_eq_of_lt (show n / 10 < 10 by omega)]

theorem padLeft_three {n : Nat} (h : n < 1000) :
    padLeft 3 (showNat n) =
      [if n < 100 then ' ' else digitOf (n / 100), if n < 10 then ' ' else digitOf (n / 10 % 10), digitOf (n % 10)] := by
  rw [padLeft_showNat (w := 2) (by omega) (by omega)]
  simp only [digitsField, digitChar_mod, Nat.div_div_eq_div_mul, Nat.reduceMul, Nat.div_lt_iff_lt_mul (show 0 < 10 by omega)]
  split
  · rw [if_pos (show n < 100 by omega)]
    rfl
  · split <;> simp [Nat.mod_eq_of_lt (show n / 100 < 10 by omega)]

theorem padLeft_whole {n : Nat} (h : n < 100000) : padLeft 5 (showNat n) = wholeRow n := by
  rw [padLeft_showNat (w := 4) (by omega) (by omega)]
  unfold wholeRow
  simp only [digitsField, digitChar_mod, Nat.div_div_eq_div_mul, Nat.reduceMul, Nat.div_lt_iff_lt_mul (show 0 < 10 by omega),
    Nat.div_lt_iff_lt_mul (show 0 < 100 by omega), Nat.div_lt_iff_lt_mul (show 0 < 1000 by omega)]
  split
  · rw [if_pos (show n < 10000 by omega), if_pos (show n < 1000 by omega), if_pos (show n < 100 by omega)]
    rfl
  · split
    · rw [if_pos (show n < 10000 by omega), if_pos (show n < 1000 by omega)]
      rfl
    · split
      · rw [if_pos (show n < 10000 by omega)]
        rfl
      · split <;> simp [Nat.mod_eq_of_lt (show n / 10000 < 10 by omega)]

/-- The digits of a number do not fit a field that it exceeds. -/
theorem showNat_length_lt {w n : Nat} (hw : w < 12) (hn : n < 10 ^ (w + 1)) : (showNat n).length ≤ w + 1 := by
  have h := congrArg List.length (padLeft_showNat hw hn)
  rw [digitsField_length] at h
  simp only [padLeft, List.length_append, List.length_replicate] at h
  omega

theorem decimalDigits_length_ge {w f n : Nat} (hw : w < f) (hn : 10 ^ w ≤ n) : w < (decimalDigits f n).length := by
  induction w generalizing f n with
  | zero =>
    obtain ⟨g, rfl⟩ := Nat.exists_eq_succ_of_ne_zero hw.ne'
    rw [decimalDigits]
    split <;> simp
  | succ v ih =>
    obtain ⟨g, rfl⟩ := Nat.exists_eq_succ_of_ne_zero (Nat.ne_zero_of_lt hw)
    have hpos : 0 < 10 ^ v := Nat.pow_pos (by omega)
    rw [Nat.pow_succ] at hn
    rw [decimalDigits, if_neg (by omega), List.length_append]
    have := ih (f := g) (n := n / 10) (by omega) (by omega)
    simp only [List.length_singleton]
    omega

theorem padLeft_tenths {n : Nat} (h : n < 1000000) : padLeft 5 (tenthsFigure n) = tenthsRow n := by
  have hlength : (showTenths n).length = (showNat (n / 10)).length + 2 := by simp [showTenths]
  unfold tenthsFigure tenthsRow
  by_cases hn : n < 10000
  · have hshort := showNat_length_lt (w := 2) (n := n / 10) (by omega) (by omega)
    have hfield : padLeft 5 (showTenths n) = padLeft 3 (showNat (n / 10)) ++ ['.', digitChar n] :=
      padLeft_append 3 _ ['.', digitChar n]
    rw [if_neg (by omega), if_pos hn, hfield, padLeft_three (by omega)]
    simp only [Nat.div_div_eq_div_mul, Nat.reduceMul, Nat.div_lt_iff_lt_mul (show 0 < 10 by omega), digitChar_mod]
    rfl
  · have hlong := decimalDigits_length_ge (w := 3) (f := 12) (n := n / 10) (by omega) (by omega)
    rw [if_pos (by rw [hlength]; exact Nat.add_lt_add_right hlong 2), if_neg hn, padLeft_whole (by omega)]

theorem padLeft_optional {o : Option Nat} (h : ∀ x, o = some x → x < 1000000) :
    padLeft 5 (tenthsOrDashes o) = optionalRow o := by
  cases o with
  | none => rfl
  | some x => exact padLeft_tenths (h x rfl)

theorem padLeft_signed {v : Int} (hlo : -9999 ≤ v) (hhi : v < 100000) : padLeft 5 (showInt v) = signedRow v := by
  unfold showInt signedRow
  by_cases hv : 0 ≤ v
  · rw [if_neg (by omega), if_pos hv, show v.natAbs = v.toNat by omega, padLeft_whole (by omega)]
  · rw [if_pos (by omega), if_neg hv]
    generalize hm : v.natAbs = m
    have hshow : showNat m =
        if m < 10 then [digitChar m] else decimalDigits 11 (m / 10) ++ [digitChar m] := rfl
    rw [hshow]
    by_cases h1 : -10 < v
    · rw [if_pos h1, if_pos (by omega), digitChar_lt (by omega)]
      rfl
    · rw [if_neg h1, if_neg (by omega)]
      by_cases h2 : -100 < v
      · rw [if_pos h2, decimalDigits, if_pos (by omega), digitChar_lt (n := m / 10) (by omega)]
        rfl
      · rw [if_neg h2, decimalDigits, if_neg (by omega), show m / 10 / 10 = m / 100 by omega]
        by_cases h3 : -1000 < v
        · rw [if_pos h3, decimalDigits, if_pos (by omega), digitChar_lt (n := m / 100) (by omega)]
          rfl
        · rw [if_neg h3, decimalDigits, if_neg (by omega), show m / 100 / 10 = m / 1000 by omega, decimalDigits,
            if_pos (by omega), digitChar_lt (n := m / 1000) (by omega)]
          rfl

/-- Two digits of minutes behind the hour. -/
theorem padLeft_time {h m : Nat} (hh : h < 100) :
    padLeft 5 (showNat h ++ ':' :: showTwo m) =
      [if h < 10 then ' ' else digitOf (h / 10), digitOf (h % 10), ':', digitChar (m / 10), digitChar m] := by
  have hfield : padLeft 5 (showNat h ++ ':' :: showTwo m) = padLeft 2 (showNat h) ++ ':' :: showTwo m :=
    padLeft_append 2 _ (':' :: showTwo m)
  rw [hfield, padLeft_two hh]
  rfl

theorem padLeft_elapsed {r : TripRecord} (h : r.elapsed ≤ 359999) : padLeft 5 (elapsedText r) = timeRow r.elapsed := by
  unfold elapsedText elapsedHours elapsedMinutes timeRow
  rw [padLeft_time (by omega), digitChar_lt (by omega), digitChar_mod]
  simp only [Nat.div_div_eq_div_mul, Nat.reduceMul, Nat.div_lt_iff_lt_mul (show 0 < 3600 by omega)]

/-! ## The odometer readout (R137) -/

theorem odoDigits_eq {n : Nat} (h : n ≤ 9999999) : odoDigits n = digitsField 6 (n / 10) ++ [digitChar n] := by
  have hfield : odoDigits n = padLeft 6 (showNat (n / 10)) ++ [digitChar n] := padLeft_append 6 _ [digitChar n]
  rw [hfield, padLeft_showNat (w := 5) (by omega) (by omega)]

theorem odoDigits_length {n : Nat} (h : n ≤ 9999999) : (odoDigits n).length = 7 := by simp [odoDigits_eq h]

/-- Every digit of the odometer readout: the last two always shown, a blank where none is left. -/
theorem odoDigits_getElem? {n k : Nat} (h : n ≤ 9999999) (hk : k < 7) :
    (odoDigits n)[6 - k]? = some (if 2 ≤ k ∧ n < 10 ^ k then ' ' else digitOf (n / 10 ^ k % 10)) := by
  rw [odoDigits_eq h]
  cases k with
  | zero => simp [digitChar_mod]
  | succ j =>
    have hindex : 6 - (j + 1) = 6 - 1 - j := by omega
    rw [List.getElem?_append_left (by rw [digitsField_length]; omega), hindex, digitsField_getElem? (by omega),
      Nat.div_div_eq_div_mul, ← Nat.pow_succ', ← digitChar_mod]
    congr 1
    refine ite_congr (propext ?_) (fun _ => rfl) (fun _ => rfl)
    rw [Nat.pow_succ, Nat.div_lt_iff_lt_mul (by omega)]
    constructor <;> rintro ⟨h1, h2⟩ <;> exact ⟨by omega, h2⟩

end Sys2Proof.Machine
end

section
/-! PROOFS. What the readouts show: the compositions, the pages, the odometer readout (O50). -/

namespace Sys2Proof.Machine

variable {s : State}

/-! ## Compositions -/

theorem State.compose_shown (h : s.pw.state = .active ∨ s.pw.state = .crank) :
    s.compose =
      s.setReadout { s.readout with message := messageText s, odoShown := odoText s, brightness := .full } := by
  obtain h | h := h
  · exact State.compose_active h
  · exact State.compose_crank h

theorem State.compose_message (h : s.pw.state = .active ∨ s.pw.state = .crank) :
    s.compose.readout.message = messageText s := by
  rw [State.compose_shown h]
  rfl

theorem State.compose_odoShown (h : s.pw.state = .active ∨ s.pw.state = .crank) :
    s.compose.readout.odoShown = odoText s := by
  rw [State.compose_shown h]
  rfl

/-- A composition changes what is shown and how bright it is, and nothing else. -/
theorem State.compose_readout (s : State) : s.compose = { s with readout := { s.readout with
    message := s.compose.readout.message, odoShown := s.compose.readout.odoShown,
    brightness := s.compose.readout.brightness } } := by
  obtain h | h | h | h := Power.composeCases s.pw.state
  · rw [State.compose_active h]
    rfl
  · rw [State.compose_crank h]
    rfl
  · rw [State.compose_standby h]
    rfl
  · rw [State.compose_blank h]
    rfl

/-! ## The message readout (R131) -/

theorem messageText_page (h : foremost s = none) : messageText s = pageText s s.readout.page := by
  simp only [messageText, h, Option.bind_none]

theorem messageText_warning {n : Nat} {e : Warning} {text : Text} (hn : foremost s = some n)
    (he : s.warn.entry n = some e) (htext : textTable[e.cfg.text]? = some text) :
    messageText s = text ++ List.replicate (10 - text.length) ' ' := by
  simp only [messageText, hn, Option.bind_some, he, shownText, List.getD_eq_getElem?_getD, htext, Option.getD_some]
  rfl

/-! ## Pages -/

theorem pageFields_eq (a b c : Char) (figure : Text) {unit : Text} (h : unit.length = 2) :
    pageFields [a, b, c] figure unit = [a, b, c] ++ padLeft 5 figure ++ unit := by
  simp [pageFields, padRight, h]

theorem unitText_length {u : Units} {x y : Text} (hx : x.length = 2) (hy : y.length = 2) :
    (unitText u x y).length = 2 := by
  unfold unitText
  split <;> assumption

/-- A page without a unit. -/
theorem pageFields_time (a b c : Char) (figure : Text) :
    pageFields [a, b, c] figure [] = [a, b, c] ++ padLeft 5 figure ++ [' ', ' '] := rfl

/-- The page of a temperature: its unit is one character. -/
theorem pageFields_degrees (u : Units) (a b c : Char) (figure : Text) :
    pageFields [a, b, c] figure (unitText u ['C'] ['F']) =
      [a, b, c] ++ padLeft 5 figure ++ unitText u ['C', ' '] ['F', ' '] := by
  unfold unitText
  split <;> rfl

theorem inUnits_le (u : Units) (n : Nat) : inUnits u n ≤ n := by
  unfold inUnits toMiles
  split <;> omega

/-- The hour as the clock shows it (R140). -/
def clockHour (s : State) : Nat :=
  if s.pw.clock12 then (if s.readout.hour % 12 = 0 then 12 else s.readout.hour % 12) else s.readout.hour

theorem clockHour_lt (h : s.readout.hour < 24) : clockHour s < 100 := by
  unfold clockHour
  (repeat' split) <;> omega

theorem clockPage_eq (hhour : s.readout.hour < 24) (hminute : s.readout.minute < 60) :
    clockPage s =
      [' ', ' ', ' ', if clockHour s < 10 then ' ' else digitOf (clockHour s / 10), digitOf (clockHour s % 10), ':',
       digitOf (s.readout.minute / 10), digitOf (s.readout.minute % 10)] ++
        (if s.pw.clock12 then (if s.readout.hour < 12 then ['A', 'M'] else ['P', 'M']) else [' ', ' ']) := by
  have hfigure : padLeft 5 (clockFigure s.pw.clock12 s.readout.hour s.readout.minute) =
      [if clockHour s < 10 then ' ' else digitOf (clockHour s / 10), digitOf (clockHour s % 10), ':',
       digitChar (s.readout.minute / 10), digitChar s.readout.minute] :=
    padLeft_time (h := clockHour s) (clockHour_lt hhour)
  have hunit : padRight 2 (if s.pw.clock12 then (if s.readout.hour < 12 then ['A', 'M'] else ['P', 'M']) else []) =
      if s.pw.clock12 then (if s.readout.hour < 12 then ['A', 'M'] else ['P', 'M']) else [' ', ' '] := by
    (repeat' split) <;> rfl
  rw [clockPage, pageFields, hfigure, hunit, digitChar_lt (by omega), digitChar_mod]
  rfl

theorem rangeFigure_unavailable (h : s.trip.received = false) : padLeft 5 (rangeFigure s) = dashedRow := by
  simp only [rangeFigure, rangeKm, fuelRemaining, h, Bool.false_eq_true, if_false]
  rfl

/-- The range in whole kilometres (R48). -/
def rangeOf (s : State) : Nat :=
  let ml := tankVolume s.cal.tank (s.trip.f / 256) * 100
  min 1999 (if 8000 ≤ s.trip.winDist ∧ 1 ≤ s.trip.winFuel
    then ml * s.trip.winDist / (s.trip.winFuel * 1000) else ml / s.cal.economy)

theorem rangeFigure_available (h : s.trip.received = true) :
    padLeft 5 (rangeFigure s) =
      if rangeOf s < 50 then [' ', ' ', 'L', 'O', 'W'] else wholeRow (inUnits s.pw.units (rangeOf s)) := by
  have hfigure : rangeFigure s =
      if rangeOf s < 50 then ['L', 'O', 'W'] else showNat (inUnits s.pw.units (rangeOf s)) := by
    simp only [rangeFigure, rangeKm, fuelRemaining, h, if_true]
    rfl
  rw [hfigure]
  split
  · rfl
  · have hrange : rangeOf s ≤ 1999 := Nat.min_le_left ..
    have hunits := inUnits_le s.pw.units (rangeOf s)
    exact padLeft_whole (by omega)

theorem economyFigure_eq (u : Units) (r : TripRecord) :
    padLeft 5 (tenthsOrDashes (averageEconomy u r)) = optionalRow (averageEconomy u r) :=
  padLeft_optional fun _ h => (averageEconomy_le h).trans_lt (by omega)

theorem currentEconomy_of (c : Cal) (u : Units) (a : Accum) :
    currentEconomy c u a =
      if a.speed < 80 then none
      else some (min 999
        (if u = .metric then roundHalfUp (slotFuel a.ring * c.kDist * 1000) (slotDist a.ring * c.kFuel)
         else if slotFuel a.ring = 0 then 999
         else roundHalfUp (slotDist a.ring * c.kFuel * mpgConstant u) (slotFuel a.ring * c.kDist * 1000))) := by
  unfold currentEconomy
  dsimp only
  (repeat' split) <;> rfl

theorem mpgConstant_of {u : Units} (h : u ≠ .metric) : mpgConstant u = if u = .us then 23521 else 28248 := by
  cases u with
  | metric => exact absurd rfl h
  | us => rfl
  | imperial => rfl

theorem currentFigure_eq (c : Cal) (u : Units) (a : Accum) :
    padLeft 5 (tenthsOrDashes (currentEconomy c u a)) =
      if a.speed < 80 then dashedRow
      else tenthsRow (min 999
        (if u = .metric then roundHalfUp (slotFuel a.ring * c.kDist * 1000) (slotDist a.ring * c.kFuel)
         else if slotFuel a.ring = 0 then 999
         else roundHalfUp (slotDist a.ring * c.kFuel * (if u = .us then 23521 else 28248))
           (slotFuel a.ring * c.kDist * 1000))) := by
  rw [currentEconomy_of]
  split
  · rfl
  · refine (padLeft_tenths (by omega)).trans ?_
    by_cases hu : u = .metric
    · rw [if_pos hu, if_pos hu]
    · rw [if_neg hu, if_neg hu, mpgConstant_of hu]

theorem speedFigure_eq (u : Units) (r : TripRecord) :
    padLeft 5 (speedFigure u r) =
      if r.elapsed < 60 then dashedRow
      else tenthsRow (inUnits u (min 2999 (roundHalfUp (r.dist * 36) r.elapsed))) := by
  unfold speedFigure averageSpeed
  split
  · rfl
  · have hunits := inUnits_le u (min 2999 (roundHalfUp (r.dist * 36) r.elapsed))
    exact padLeft_tenths (by omega)

theorem fuelUsed_eq (u : Units) (r : TripRecord) :
    fuelUsed u r =
      if u = .metric then r.fuel / 100
      else if u = .us then r.fuel * 26417 / 10000000 else r.fuel * 21997 / 10000000 := by
  cases u <;> rfl

theorem fuelFigure_eq (u : Units) {r : TripRecord} (h : r.fuel ≤ 999999) :
    padLeft 5 (tenthsFigure (fuelUsed u r)) = tenthsRow (fuelUsed u r) := by
  refine padLeft_tenths ?_
  rw [fuelUsed_eq]
  (repeat' split) <;> omega

theorem distanceFigure_eq (u : Units) {r : TripRecord} (h : r.dist ≤ 9999999) :
    padLeft 5 (tenthsFigure (tripDistance u r)) = tenthsRow (inUnits u (r.dist / 100)) := by
  have hunits := inUnits_le u (r.dist / 100)
  exact padLeft_tenths (n := inUnits u (r.dist / 100)) (by omega)

theorem outsideFigure_lost (h : ¬ s.sig.bodyHdr.fresh.held = true) : padLeft 5 (outsideFigure s) = dashedRow := by
  rw [outsideFigure, if_neg h]
  rfl

theorem temperature_eq (u : Units) (c : Int) : temperature u c = if u = .metric then c else (c * 18 + 5) / 10 + 32 := by
  unfold temperature
  rw [Int.fdiv_eq_ediv_of_nonneg _ (by omega)]

theorem outsideFigure_held (h : s.sig.bodyHdr.fresh.held = true) (hlo : -40 ≤ s.sig.body.outside)
    (hhi : s.sig.body.outside ≤ 60) :
    padLeft 5 (outsideFigure s) = signedRow (temperature s.pw.units s.sig.body.outside) := by
  rw [outsideFigure, if_pos h]
  refine padLeft_signed ?_ ?_ <;> rw [temperature_eq] <;> split <;> omega

/-! ## The SERVICE page (R136) -/

/-- The worst state, where some item has it and none exceeds it. -/
theorem foldl_worseState {l : List ServiceItem} {w st : ServiceState} (hw : w.rank ≤ st.rank)
    (hl : ∀ y ∈ l, y.state.rank ≤ st.rank) (hmem : w = st ∨ ∃ y ∈ l, y.state = st) :
    l.foldl (fun w i => worseState w i.state) w = st := by
  induction l generalizing w with
  | nil => simpa using hmem
  | cons x rest ih =>
    have hx := hl x List.mem_cons_self
    refine ih (by rw [worseState_rank]; omega) (fun y hy => hl y (List.mem_cons_of_mem _ hy)) ?_
    rw [← ServiceState.rank_inj, worseState_rank]
    obtain rfl | ⟨y, hy, hst⟩ := hmem
    · exact .inl (by omega)
    · obtain rfl | hy := List.mem_cons.mp hy
      · exact .inl (by rw [hst]; omega)
      · exact .inr ⟨y, hy, hst⟩

theorem firstInState_eq {l : List ServiceItem} {n : Nat} {x : ServiceItem} (k : Nat) (hx : l[n]? = some x)
    (hfirst : ∀ m y, m < n → l[m]? = some y → y.state ≠ x.state) : firstInState x.state l k = some (k + n, x) := by
  induction l generalizing n k with
  | nil => simp at hx
  | cons y rest ih =>
    cases n with
    | zero =>
      obtain rfl : y = x := by simpa using hx
      rw [firstInState, if_pos rfl]
      rfl
    | succ m =>
      rw [firstInState, if_neg (hfirst 0 y (by omega) rfl),
        ih (n := m) (k + 1) (by simpa using hx) fun j z hj hz => hfirst (j + 1) z (by omega) (by simpa using hz)]
      congr 2
      omega

theorem servicePage_ok (h : ∀ x ∈ s.service.items, x.state = .ok) : servicePage s = "SERVICE OK".toList := by
  have hworst : worstItemState s.service.items = .ok :=
    foldl_worseState (Nat.le_refl _) (fun y hy => by rw [h y hy]) (.inl rfl)
  simp only [servicePage, hworst, if_true]

/-- The SERVICE page of the first item in the worst state, by the first measure that gives it. -/
theorem servicePage_item {n : Nat} {x : ServiceItem} {m : Measure} (hn : n < 6) (hx : s.service.items[n]? = some x)
    (hne : x.state ≠ .ok) (hworst : ∀ y ∈ s.service.items, y.state.rank ≤ x.state.rank)
    (hfirst : ∀ m y, m < n → s.service.items[m]? = some y → y.state ≠ x.state)
    (hm : [Measure.km, .days, .hours].find? (measureGives s x) = some m) :
    servicePage s =
      ['S', 'V', digitOf n] ++ padLeft 5 (remainingFigure s x m) ++ remainingUnit s.pw.units m := by
  have hstate : worstItemState s.service.items = x.state :=
    foldl_worseState (Nat.zero_le _) hworst (.inr ⟨x, List.mem_of_getElem? hx, rfl⟩)
  have hitem : firstInState x.state s.service.items 0 = some (n, x) := by simpa using firstInState_eq 0 hx hfirst
  have hunit : (remainingUnit s.pw.units m).length = 2 := by
    cases m with
    | km => exact unitText_length rfl rfl
    | days => rfl
    | hours => rfl
  simp only [servicePage, hstate, if_neg hne, hitem, hm]
  rw [pageFields_eq _ _ _ _ hunit, digitChar_lt (by omega)]

/-- A measure gives the item's state when it is enabled and its own state is that. -/
theorem measureGives_km (x : ServiceItem) :
    measureGives s x .km = true ↔ x.cfg.kmInterval ≠ 0 ∧
      measureState x.cfg.kmInterval x.cfg.kmMargin (kmUsed x s.acc.odo) = x.state := by
  simp [measureGives]

theorem measureGives_days (x : ServiceItem) :
    measureGives s x .days = true ↔ x.cfg.daysInterval ≠ 0 ∧
      measureState x.cfg.daysInterval x.cfg.daysMargin (daysUsed x s.readout.day) = x.state := by
  simp [measureGives]

theorem measureGives_hours (x : ServiceItem) :
    measureGives s x .hours = true ↔ x.cfg.hoursInterval ≠ 0 ∧
      measureState x.cfg.hoursInterval x.cfg.hoursMargin (hoursUsed x s.service.hours) = x.state := by
  simp [measureGives]

/-- What remains of a measure as the readout shows it, clamped (R136). -/
def remainingOf (interval used : Nat) : Int := max (-9999) (min 99999 ((interval : Int) - used))

theorem remainingOf_bounds (interval used : Nat) :
    -9999 ≤ remainingOf interval used ∧ remainingOf interval used ≤ 99999 := by
  unfold remainingOf
  omega

theorem remainingFigure_km (x : ServiceItem) :
    padLeft 5 (remainingFigure s x .km) =
      signedRow (if s.pw.units = .metric then remainingOf x.cfg.kmInterval (kmUsed x s.acc.odo)
        else remainingOf x.cfg.kmInterval (kmUsed x s.acc.odo) * 62137 / 100000) := by
  obtain ⟨hlo, hhi⟩ := remainingOf_bounds x.cfg.kmInterval (kmUsed x s.acc.odo)
  have hfigure : remainingFigure s x .km =
      showInt (if s.pw.units = .metric then remainingOf x.cfg.kmInterval (kmUsed x s.acc.odo)
        else remainingOf x.cfg.kmInterval (kmUsed x s.acc.odo) * 62137 / 100000) := by
    rw [← Int.fdiv_eq_ediv_of_nonneg _ (by omega)]
    rfl
  rw [hfigure]
  refine padLeft_signed ?_ ?_ <;> split <;> omega

theorem remainingFigure_days (x : ServiceItem) :
    padLeft 5 (remainingFigure s x .days) =
      signedRow (remainingOf x.cfg.daysInterval (daysUsed x s.readout.day)) := by
  obtain ⟨hlo, hhi⟩ := remainingOf_bounds x.cfg.daysInterval (daysUsed x s.readout.day)
  exact padLeft_signed hlo (hhi.trans_lt (by omega))

theorem remainingFigure_hours (x : ServiceItem) :
    padLeft 5 (remainingFigure s x .hours) =
      signedRow (remainingOf x.cfg.hoursInterval (hoursUsed x s.service.hours)) := by
  obtain ⟨hlo, hhi⟩ := remainingOf_bounds x.cfg.hoursInterval (hoursUsed x s.service.hours)
  exact padLeft_signed hlo (hhi.trans_lt (by omega))

/-! ## The odometer readout (R137) -/

/-- The figure the odometer readout shows, in tenths, with its sign. -/
theorem odoText_figure {n : Nat} {sign : Annunciator}
    (h : (s.readout.odoSel = .odometer ∧ s.acc.odoUnknown = false ∧ sign = .none ∧ n = inUnits s.pw.units s.acc.odo) ∨
      (s.readout.odoSel = .tripA ∧ sign = .a ∧ n = inUnits s.pw.units (s.trip.a.dist / 100)) ∨
      (s.readout.odoSel = .tripB ∧ sign = .b ∧ n = inUnits s.pw.units (s.trip.b.dist / 100))) :
    odoText s = { digits := odoDigits n, point := true, sign := sign } := by
  obtain ⟨hsel, hknown, rfl, rfl⟩ | ⟨hsel, rfl, rfl⟩ | ⟨hsel, rfl, rfl⟩ := h
  · simp only [odoText, hsel, hknown, Bool.false_eq_true, if_false]
  · simp only [odoText, hsel]
    rfl
  · simp only [odoText, hsel]
    rfl

/-! ## The statement -/

/-- Settles O50: a composition by the power state, and each page by the row of its figure. -/
theorem readouts : Obligations.Readouts := by
  unfold Obligations.Readouts
  intro s r blank digit clock shown
  refine ⟨s.compose_readout, fun h => ?blank, fun h => ?standby, fun hhour hminute h => ?clock,
    fun n e text h hn he htext => (State.compose_message h).trans (messageText_warning hn he htext), fun h => ?full,
    fun h hsel hunknown => ?unknown, fun h n sign hfigure hn => ?figure, by decide, fun h hf => ?pages⟩
  case blank =>
    show s.compose.readout.message = _ ∧ s.compose.readout.odoShown = _
    rw [State.compose_blank h]
    exact ⟨rfl, rfl⟩
  case standby =>
    show s.compose.readout.odoShown = _ ∧ s.compose.readout.brightness = _
    rw [State.compose_standby h]
    exact ⟨rfl, rfl⟩
  case clock =>
    show s.compose.readout.message = _
    obtain h | ⟨h, hf, hpage⟩ := h
    · rw [State.compose_standby h]
      exact clockPage_eq hhour hminute
    · rw [State.compose_message h, messageText_page hf, hpage]
      exact clockPage_eq hhour hminute
  case full =>
    show s.compose.readout.brightness = _
    rw [State.compose_shown h]
    rfl
  case unknown =>
    show s.compose.readout.odoShown = _
    rw [State.compose_odoShown h]
    simp only [odoText, hsel, hunknown, if_true]
  case figure =>
    have hodo : s.compose.readout.odoShown = { digits := odoDigits n, point := true, sign := sign } :=
      (State.compose_odoShown h).trans (odoText_figure hfigure)
    show s.compose.readout.odoShown.point = _ ∧ s.compose.readout.odoShown.sign = _ ∧
      s.compose.readout.odoShown.digits.length = _ ∧ ∀ k, k < 7 → s.compose.readout.odoShown.digits[6 - k]? = _
    rw [hodo]
    exact ⟨rfl, rfl, odoDigits_length hn, fun k hk => odoDigits_getElem? hn hk⟩
  case pages =>
    have hmessage {p : Page} (hp : s.readout.page = p) : r.message = pageText s p := by
      rw [← hp, ← messageText_page hf]
      exact State.compose_message h
    intro whole tenths dashed optional signed hhmm u unit miles half speed letter trip last
    refine ⟨fun hp => ?range, fun hp => ?average, fun hp => ?current, fun hp => ?speed, fun hp helapsed => ?elapsed,
      fun hp hfuel => ?fuel, fun hp => ?last, fun hp => ?service, fun hp => ?outside⟩
    case range =>
      have hpage (row : List Char) (hrow : padLeft 5 (rangeFigure s) = row) :
          r.message = ['R', 'N', 'G'] ++ row ++ unit ['K', 'M'] ['M', 'I'] := by
        rw [hmessage hp, ← hrow]
        exact pageFields_eq _ _ _ _ (unitText_length rfl rfl)
      exact ⟨fun hreceived => hpage _ (rangeFigure_unavailable hreceived),
        fun hreceived => hpage _ (rangeFigure_available hreceived)⟩
    case average =>
      rw [hmessage hp]
      refine (pageFields_eq _ _ _ _ (unitText_length rfl rfl)).trans ?_
      rw [economyFigure_eq]
      rfl
    case current =>
      rw [hmessage hp]
      refine (pageFields_eq _ _ _ _ (unitText_length rfl rfl)).trans ?_
      rw [currentFigure_eq]
      rfl
    case speed =>
      rw [hmessage hp]
      refine (pageFields_eq _ _ _ _ (unitText_length rfl rfl)).trans ?_
      rw [speedFigure_eq]
      rfl
    case elapsed =>
      rw [hmessage hp]
      refine (pageFields_time _ _ _ _).trans ?_
      rw [padLeft_elapsed (by exact helapsed)]
      rfl
    case fuel =>
      rw [hmessage hp]
      refine (pageFields_eq _ _ _ _ (unitText_length rfl rfl)).trans ?_
      rw [fuelFigure_eq _ (by exact hfuel), fuelUsed_eq]
      rfl
    case last =>
      have hlast : r.message = lastTripPage s := hmessage hp
      rw [hlast]
      refine ⟨fun hrot hdist => ?_, fun hrot => ?_, fun hrot => ?_, fun hrot helapsed => ?_⟩ <;>
        simp only [lastTripPage, hrot]
      · refine (pageFields_eq _ _ _ _ (unitText_length rfl rfl)).trans ?_
        rw [distanceFigure_eq _ (by exact hdist)]
        rfl
      · refine (pageFields_eq _ _ _ _ (unitText_length rfl rfl)).trans ?_
        rw [economyFigure_eq]
        rfl
      · refine (pageFields_eq _ _ _ _ (unitText_length rfl rfl)).trans ?_
        rw [speedFigure_eq]
        rfl
      · refine (pageFields_time _ _ _ _).trans ?_
        rw [padLeft_elapsed (by exact helapsed)]
        rfl
    case service =>
      have hservice : r.message = servicePage s := hmessage hp
      rw [hservice]
      refine ⟨servicePage_ok, fun n x hn hx hne hworst hfirst => ?_⟩
      intro used gives left label
      have hkm : gives 0 ↔ measureGives s x .km = true := by
        rw [measureGives_km]
        simp [gives, used, kmUsed]
      have hdays : gives 1 ↔ measureGives s x .days = true := by
        rw [measureGives_days]
        simp [gives, used, daysUsed]
      have hhours : gives 2 ↔ measureGives s x .hours = true := by
        rw [measureGives_hours]
        simp [gives, used, hoursUsed]
      rw [hkm, hdays, hhours]
      refine ⟨fun h0 => ?_, fun h0 h1 => ?_, fun h0 h1 h2 => ?_⟩
      · rw [servicePage_item (m := .km) hn hx hne hworst hfirst (by simp [h0]), remainingFigure_km]
        rfl
      · rw [servicePage_item (m := .days) hn hx hne hworst hfirst (by simp [h0, h1]), remainingFigure_days]
        rfl
      · rw [servicePage_item (m := .hours) hn hx hne hworst hfirst (by simp [h0, h1, h2]), remainingFigure_hours]
        rfl
    case outside =>
      have hpage (row : List Char) (hrow : padLeft 5 (outsideFigure s) = row) :
          r.message = ['O', 'U', 'T'] ++ row ++ unit ['C', ' '] ['F', ' '] := by
        rw [hmessage hp, ← hrow]
        exact pageFields_degrees s.pw.units _ _ _ _
      intro held
      have hheld : held ↔ s.sig.bodyHdr.fresh.held = true := (Freshness.held_iff _).symm
      rw [hheld]
      refine ⟨fun hlost => hpage _ (outsideFigure_lost hlost), fun hheld hlo hhi => ?_⟩
      refine hpage _ ((outsideFigure_held hheld hlo hhi).trans ?_)
      rw [temperature_eq]
      rfl

end Sys2Proof.Machine
end

section
/-! PROOFS. The trip tick in one piece (O17): the silent stations, the evaluation of the 32 positions, the rest. -/

namespace Sys2Proof.Machine

/-! ## The silent stations (R163) -/

theorem Station.markAbsent_silent (r : Station) (now : Nat) : r.markAbsent.silent now = false := rfl

theorem Station.silent_present {r : Station} {now : Nat} (h : r.silent now = true) : r.state ≠ .absent := by
  simp only [Station.silent, Bool.and_eq_true, bne_iff_ne] at h
  exact h.1

/-- The silence check of one station changes the peers and the signals alone. -/
theorem State.checkStation_eq (now : Nat) (s : State) (n : Nat) :
    State.checkStation now s n =
      { s with peer := (State.checkStation now s n).peer, sig := (State.checkStation now s n).sig } := by
  unfold State.checkStation
  split <;> rfl

theorem State.checkStation_station (now : Nat) (s : State) (n : Nat) (m : StationNo) :
    (State.checkStation now s n).peer.station m =
      if m = BitVec.ofNat 4 n ∧ (s.peer.station m).silent now = true then (s.peer.station m).markAbsent
      else s.peer.station m := by
  unfold State.checkStation
  split
  · rename_i hsilent
    rw [State.station_markAbsent (Station.silent_present hsilent)]
    by_cases hm : m = BitVec.ofNat 4 n
    · rw [if_pos hm, hm, if_pos ⟨rfl, hsilent⟩]
    · rw [if_neg hm, if_neg fun h => hm h.1]
  · rename_i hspoke
    rw [if_neg]
    rintro ⟨rfl, h⟩
    exact hspoke h

theorem State.checkStation_hdr (now : Nat) (s : State) (n : Nat) (k : SignalKind) :
    (State.checkStation now s n).sig.hdr k =
      if (s.sig.hdr k).bound = some (BitVec.ofNat 4 n) ∧ (s.peer.station (BitVec.ofNat 4 n)).silent now = true then
        { s.sig.hdr k with fresh := loseFreshness (s.sig.hdr k).fresh }
      else s.sig.hdr k := by
  unfold State.checkStation
  split
  · rename_i hsilent
    refine (Signals.hdr_stationLost s.sig _ k).trans ?_
    by_cases hbound : (s.sig.hdr k).bound = some (BitVec.ofNat 4 n)
    · rw [if_pos ⟨hbound, hsilent⟩, SigHeader.stationLost, if_pos hbound]
    · rw [if_neg fun h => hbound h.1, SigHeader.stationLost, if_neg hbound]
  · rename_i hspoke
    rw [if_neg fun h => hspoke h.2]

theorem State.checkStation_fields (now : Nat) (s : State) (n : Nat) :
    (State.checkStation now s n).sig.engine = s.sig.engine ∧ (State.checkStation now s n).sig.chassis = s.sig.chassis ∧
      (State.checkStation now s n).sig.body = s.sig.body ∧ (State.checkStation now s n).sig.fuel = s.sig.fuel := by
  unfold State.checkStation
  split <;> exact ⟨rfl, rfl, rfl, rfl⟩

theorem loseFreshness_twice (f : Freshness) : loseFreshness (loseFreshness f) = loseFreshness f := by
  cases f <;> rfl

/-- The silence checks in turn: a record marked ABSENT is not silent again, so the checks do not meet. -/
theorem State.checkStations_spec (now : Nat) (ns : List Nat) (s : State) :
    ∃ peer sig, ns.foldl (State.checkStation now) s = { s with peer := peer, sig := sig } ∧
      (∀ m, peer.station m =
        if (∃ n ∈ ns, m = BitVec.ofNat 4 n) ∧ (s.peer.station m).silent now = true then (s.peer.station m).markAbsent
        else s.peer.station m) ∧
      (∀ k, ((∃ n ∈ ns, (s.sig.hdr k).bound = some (BitVec.ofNat 4 n) ∧
            (s.peer.station (BitVec.ofNat 4 n)).silent now = true) ∧
          sig.hdr k = { s.sig.hdr k with fresh := loseFreshness (s.sig.hdr k).fresh }) ∨
        ((¬ ∃ n ∈ ns, (s.sig.hdr k).bound = some (BitVec.ofNat 4 n) ∧
            (s.peer.station (BitVec.ofNat 4 n)).silent now = true) ∧ sig.hdr k = s.sig.hdr k)) ∧
      sig.engine = s.sig.engine ∧ sig.chassis = s.sig.chassis ∧ sig.body = s.sig.body ∧ sig.fuel = s.sig.fuel := by
  induction ns generalizing s with
  | nil => exact ⟨s.peer, s.sig, rfl, by simp, by simp, rfl, rfl, rfl, rfl⟩
  | cons n rest ih =>
    obtain ⟨peer, sig, hstate, hstation, hhdr, hengine, hchassis, hbody, hfuel⟩ := ih (State.checkStation now s n)
    obtain ⟨hengine', hchassis', hbody', hfuel'⟩ := State.checkStation_fields now s n
    refine ⟨peer, sig, ?_, fun m => ?_, fun k => ?_, hengine.trans hengine', hchassis.trans hchassis',
      hbody.trans hbody', hfuel.trans hfuel'⟩
    · rw [List.foldl_cons, hstate, State.checkStation_eq]
    · rw [hstation m, State.checkStation_station]
      by_cases hfirst : m = BitVec.ofNat 4 n ∧ (s.peer.station m).silent now = true
      · have hnow : ∃ j ∈ n :: rest, m = BitVec.ofNat 4 j := ⟨n, List.mem_cons_self, hfirst.1⟩
        rw [if_pos hfirst, if_neg fun h => by simp [Station.markAbsent_silent] at h, if_pos ⟨hnow, hfirst.2⟩]
      · rw [if_neg hfirst]
        refine ite_congr (propext ⟨?_, ?_⟩) (fun _ => rfl) (fun _ => rfl)
        · rintro ⟨⟨j, hj, hm⟩, hsilent⟩
          exact ⟨⟨j, List.mem_cons_of_mem _ hj, hm⟩, hsilent⟩
        · rintro ⟨⟨j, hj, hm⟩, hsilent⟩
          obtain rfl | hj := List.mem_cons.mp hj
          · exact absurd ⟨hm, hsilent⟩ hfirst
          · exact ⟨⟨j, hj, hm⟩, hsilent⟩
    · have hbound : ((State.checkStation now s n).sig.hdr k).bound = (s.sig.hdr k).bound := by
        rw [State.checkStation_hdr]
        split <;> rfl
      have hlater (h : ∃ j ∈ rest, ((State.checkStation now s n).sig.hdr k).bound = some (BitVec.ofNat 4 j) ∧
          ((State.checkStation now s n).peer.station (BitVec.ofNat 4 j)).silent now = true) :
          ∃ j ∈ rest, (s.sig.hdr k).bound = some (BitVec.ofNat 4 j) ∧
            (s.peer.station (BitVec.ofNat 4 j)).silent now = true := by
        obtain ⟨j, hj, hb, hsilent⟩ := h
        refine ⟨j, hj, hbound ▸ hb, ?_⟩
        rw [State.checkStation_station] at hsilent
        split at hsilent
        · simp [Station.markAbsent_silent] at hsilent
        · exact hsilent
      by_cases hfirst : (s.sig.hdr k).bound = some (BitVec.ofNat 4 n) ∧
          (s.peer.station (BitVec.ofNat 4 n)).silent now = true
      · refine .inl ⟨⟨n, List.mem_cons_self, hfirst⟩, ?_⟩
        obtain ⟨-, h⟩ | ⟨-, h⟩ := hhdr k <;> rw [h, State.checkStation_hdr, if_pos hfirst]
        simp only [loseFreshness_twice]
      · have hsame : (State.checkStation now s n).sig.hdr k = s.sig.hdr k := by
          rw [State.checkStation_hdr, if_neg hfirst]
        obtain ⟨hsome, h⟩ | ⟨hnone, h⟩ := hhdr k
        · obtain ⟨j, hj, hb⟩ := hlater hsome
          exact .inl ⟨⟨j, List.mem_cons_of_mem _ hj, hb⟩, by rw [h, hsame]⟩
        · refine .inr ⟨?_, by rw [h, hsame]⟩
          rintro ⟨j, hj, hb, hsilent⟩
          obtain rfl | hj := List.mem_cons.mp hj
          · exact hfirst ⟨hb, hsilent⟩
          · refine hnone ⟨j, hj, hbound.trans hb, ?_⟩
            rw [State.checkStation_station, if_neg]
            · exact hsilent
            · rintro ⟨heq, -⟩
              exact hfirst ⟨hb.trans (congrArg some heq), heq ▸ hsilent⟩

theorem exists_station {P : StationNo → Prop} : (∃ n ∈ List.range 16, P (BitVec.ofNat 4 n)) ↔ ∃ n, P n := by
  constructor
  · rintro ⟨n, -, h⟩
    exact ⟨_, h⟩
  · rintro ⟨n, h⟩
    refine ⟨n.toNat, List.mem_range.mpr n.isLt, ?_⟩
    rwa [BitVec.ofNat_toNat, BitVec.setWidth_eq]

/-! ## What an evaluation changes -/

/-- The part with another warning table, raise order, chimes and count of displaced chimes. -/
def State.evaluatedTo (s : State) (table : List (Option Warning)) (next : Nat) (c : Chimes) (displaced : Nat) : State :=
  { s with warn := { s.warn with table := table, nextRaise := next }, chime := c
           tally := { s.tally with chimesDisplaced := displaced } }

/-- What a position at an evaluation may change: an entry, the raise order, the chimes, *chimes displaced*. -/
def State.Evaluates (s t : State) : Prop := ∃ table next c displaced, t = s.evaluatedTo table next c displaced

theorem State.Evaluates.refl (s : State) : s.Evaluates s := ⟨_, _, _, _, rfl⟩

theorem State.Evaluates.trans {s t u : State} (h : s.Evaluates t) (h' : t.Evaluates u) : s.Evaluates u := by
  obtain ⟨_, _, _, _, rfl⟩ := h
  obtain ⟨_, _, _, _, rfl⟩ := h'
  exact ⟨_, _, _, _, rfl⟩

theorem State.Evaluates.entry (s : State) (n : Nat) (e : Warning) : s.Evaluates (s.setWarn (s.warn.setEntry n e)) :=
  ⟨_, _, _, _, rfl⟩

theorem State.Evaluates.silence (s : State) (n : Nat) (e : Warning) : s.Evaluates (s.storeAndSilence n e) :=
  ⟨_, _, _, _, rfl⟩

theorem State.Evaluates.reports (s : State) (l : List Nat) : s.Evaluates (l.foldl State.chimeReport s) := by
  induction l generalizing s with
  | nil => exact .refl s
  | cons n rest ih =>
    refine .trans ?_ (ih _)
    unfold State.chimeReport
    (repeat' split)
    · exact .entry ..
    · exact .refl s
    · exact .refl s

theorem State.Evaluates.offer (s : State) (n : Nat) (k : Class) : s.Evaluates (s.offerChime n k) := by
  refine .trans ?_ (.reports _ _)
  split <;> exact ⟨_, _, _, _, rfl⟩

theorem State.Evaluates.raise (s : State) (n : Nat) (e : Warning) : s.Evaluates (s.raiseWarning n e) := by
  unfold State.raiseWarning
  split
  · exact .entry ..
  · dsimp only
    split
    · exact .trans ⟨_, _, _, _, rfl⟩ (.offer _ _ _)
    · exact ⟨_, _, _, _, rfl⟩

theorem State.Evaluates.level (s : State) (n : Nat) (e : Warning) (cond : Bool) : s.Evaluates (s.evalLevel n e cond) := by
  unfold State.evalLevel
  split
  case h_1 | h_4 | h_5 | h_7 | h_8 => exact .entry ..
  case h_6 => exact .silence ..
  case h_2 | h_3 =>
    split
    · exact .raise ..
    · exact .entry ..

theorem State.Evaluates.edge (s : State) (n : Nat) (e : Warning) (last : Option Bool) (cond : Bool) :
    s.Evaluates (s.evalEdge n e last cond) := by
  unfold State.evalEdge
  split
  case h_1 =>
    split
    · exact .raise ..
    · exact .entry ..
  case h_2 | h_3 | h_4 => exact .entry ..

theorem State.Evaluates.evalEntry (s : State) (n : Nat) (e : Warning) (cond : Bool) : s.Evaluates (s.evalEntry n e cond) := by
  unfold State.evalEntry
  dsimp only
  (repeat' split)
  · exact .edge ..
  · exact .level ..
  · exact .entry ..
  · exact .silence ..

/-- The positions treated in turn (R87). -/
theorem State.Evaluates.positions (at0 : State) (call : Bool) (ns : List Nat) (s : State) :
    s.Evaluates (ns.foldl (State.evalPosition at0 call) s) := by
  induction ns generalizing s with
  | nil => exact .refl s
  | cons n rest ih =>
    refine .trans ?_ (ih _)
    unfold State.evalPosition
    split
    · exact .refl s
    · exact .evalEntry ..

/-! ## The sample (R79) -/

theorem lowActiveMask_testBit {cfg : List SenseCfg} {n : Nat} {c : SenseCfg} (h : cfg[n]? = some c) :
    (lowActiveMask cfg).testBit n = !c.activeHigh := by
  induction cfg generalizing n with
  | nil => simp at h
  | cons x rest ih =>
    have hmask : lowActiveMask (x :: rest) = lowActiveMask rest * 2 + (!x.activeHigh).toNat := rfl
    rw [hmask]
    cases n with
    | zero =>
      obtain rfl : x = c := by simpa using h
      rw [Nat.testBit_zero]
      cases x.activeHigh <;> simp
    | succ m =>
      rw [Nat.testBit_succ, ← ih (n := m) (by simpa using h)]
      congr 1
      have := Bool.toNat_lt (!x.activeHigh)
      omega

theorem sampleTerms_bit {cfg : List SenseCfg} (levels : BitVec 16) {n : Nat} {c : SenseCfg} (hn : n < 16)
    (h : cfg[n]? = some c) : (sampleTerms cfg levels).getLsbD n = (levels.getLsbD n == c.activeHigh) := by
  rw [sampleTerms, BitVec.getLsbD_xor, BitVec.getLsbD_ofNat, lowActiveMask_testBit h, decide_eq_true hn, Bool.true_and]
  cases levels.getLsbD n <;> cases c.activeHigh <;> rfl

/-! ## The parts of a trip tick -/

theorem State.fastFillTick_eq (s : State) : s.fastFillTick = { s with trip := { s.trip with
    fastFill := if s.pw.state = .active then s.trip.fastFill - 1 else s.trip.fastFill } } := by
  unfold State.fastFillTick
  split <;> rfl

theorem State.composeTick_eq (s : State) : ∃ message odo bright, s.composeTick =
    { s with readout := { s.readout with message := message, odoShown := odo, brightness := bright } } := by
  unfold State.composeTick
  split
  · exact ⟨_, _, _, s.compose_readout⟩
  · exact ⟨s.readout.message, s.readout.odoShown, s.readout.brightness, rfl⟩

theorem Readout.rotate_eq (r : Readout) :
    r.rotate = { r with rotCount := r.rotate.rotCount, rotPos := r.rotate.rotPos } ∧
      (r.rotate.rotCount, r.rotate.rotPos) =
        if r.page = .lastTrip then
          (if 20 ≤ r.rotCount + 1 then (0, nextRotation r.rotPos) else (r.rotCount + 1, r.rotPos))
        else (r.rotCount, r.rotPos) := by
  unfold Readout.rotate
  (repeat' split) <;> exact ⟨rfl, rfl⟩

/-- The tick's time and the levels it brings. -/
def State.tripBegin (s : State) (sense : BitVec 16) (t : Nat) : State :=
  { s with pins := { s.pins with sense := sense }
           pw := { s.pw with time := max s.pw.time t, nextTrip := some (t + 100) } }

/-- What a tick finds when its evaluation begins: the slot closed, the stations checked, the entries aged, the flash
moved on. -/
def State.tripStart (s : State) : State :=
  let u := (List.range 16).foldl (State.checkStation s.pw.time) (s.setAcc (s.acc.closeSlot s.cal.kDist))
  (u.setSig (u.sig.ageAll u.pw.time)).flashTick

theorem State.tripTick_eq (s : State) :
    s.tripTick = s.tripStart.evaluateTick.fastFillTick.rotationTick.composeTick := by
  simp only [State.tripTick, State.checkStations, State.tripStart, State.setAcc_pw]

theorem execTripTick_eq {s : State} {t : Nat} (sense : BitVec 16) (h : s.pw.nextTrip = some t) :
    execTripTick sense s = .next (s.tripBegin sense t).tripTick.finish := by
  simp only [execTripTick, h]
  rfl

/-- An entry after the silence checks and the ageing. -/
theorem agedFreshness_after (k : SignalKind) (f : Freshness) (age : Nat) :
    agedFreshness k (loseFreshness f) age = loseFreshness f ∧
      agedFreshness k f age =
        if f = .fresh ∨ f = .stale then
          if lostAge k ≤ age then .lost else if maxAge k < age then .stale else f
        else f := by
  cases f <;> exact ⟨rfl, rfl⟩

theorem State.tripStart_eq (s : State) :
    ∃ peer sig, s.tripStart =
      { s with peer := peer, sig := sig, acc := s.acc.closeSlot s.cal.kDist
               warn := { s.warn with flash := (s.warn.flash + 1) % 10 } } ∧
      (∀ m, peer.station m =
        if (s.peer.station m).silent s.pw.time = true then (s.peer.station m).markAbsent else s.peer.station m) ∧
      (∀ k, ((∃ n, (s.sig.hdr k).bound = some n ∧ (s.peer.station n).silent s.pw.time = true) ∧
          sig.hdr k = { s.sig.hdr k with fresh := loseFreshness (s.sig.hdr k).fresh }) ∨
        ((¬ ∃ n, (s.sig.hdr k).bound = some n ∧ (s.peer.station n).silent s.pw.time = true) ∧
          sig.hdr k = { s.sig.hdr k with
            fresh := agedFreshness k (s.sig.hdr k).fresh (s.pw.time - (s.sig.hdr k).arrival) })) ∧
      sig.engine = s.sig.engine ∧ sig.chassis = s.sig.chassis ∧ sig.body = s.sig.body ∧ sig.fuel = s.sig.fuel := by
  obtain ⟨peer, sig, hchecked, hstation, hhdr, hengine, hchassis, hbody, hfuel⟩ :=
    State.checkStations_spec s.pw.time (List.range 16) (s.setAcc (s.acc.closeSlot s.cal.kDist))
  refine ⟨peer, sig.ageAll s.pw.time, ?_, fun m => ?_, fun k => ?_, hengine, hchassis, hbody, hfuel⟩
  · rw [State.tripStart, hchecked]
    rfl
  · rw [hstation m]
    refine ite_congr (propext ⟨fun h => h.2, fun h => ⟨?_, h⟩⟩) (fun _ => rfl) (fun _ => rfl)
    exact exists_station.mpr ⟨m, rfl⟩
  · rw [Signals.hdr_ageAll]
    have hiff := exists_station (P := fun n =>
      (s.sig.hdr k).bound = some n ∧ (s.peer.station n).silent s.pw.time = true)
    obtain ⟨hsome, h⟩ | ⟨hnone, h⟩ := hhdr k
    · refine .inl ⟨hiff.mp hsome, ?_⟩
      rw [h]
      exact congrArg (fun f => { s.sig.hdr k with fresh := f }) (agedFreshness_after k (s.sig.hdr k).fresh _).1
    · exact .inr ⟨fun hex => hnone (hiff.mpr hex), by rw [h]; rfl⟩

end Sys2Proof.Machine
end

section
/-! PROOFS. The trip tick in one piece (O17): its statement. -/

namespace Sys2Proof.Machine

/-- The positions of an evaluation in turn, from its sample (R83, R87). -/
def State.walk (s : State) (call : Bool) : State := (List.range 32).foldl (State.evalPosition s call) s

theorem State.evaluateTick_runs {s : State} (h : s.pw.state = .standby ∨ s.pw.state = .active) :
    s.evaluateTick = (s.sampleWarnings s.pins.sense).walk s.warn.callPending := by
  rw [State.evaluateTick, if_pos ((evaluates_iff _).mpr h)]
  rfl

theorem State.evaluateTick_waits {s : State} (h : ¬ (s.pw.state = .standby ∨ s.pw.state = .active)) :
    s.evaluateTick = s := by
  rw [State.evaluateTick, if_neg fun hruns => h ((evaluates_iff _).mp hruns)]

/-- What follows the evaluation: the fast-fill timer, the rotation, what the readouts show, and the settling. -/
theorem State.tripEnd_eq (s : State) :
    ∃ message odo bright lamps timer stage, s.fastFillTick.rotationTick.composeTick.finish =
      { s with
        trip := { s.trip with
          fastFill := if s.pw.state = .active then s.trip.fastFill - 1 else s.trip.fastFill }
        readout := { s.readout with
          rotCount := s.readout.rotate.rotCount, rotPos := s.readout.rotate.rotPos
          message := message, odoShown := odo, brightness := bright }
        warn := { s.warn with lamps := lamps }
        pw := { s.pw with keepAlive := timer, returning := stage } } := by
  obtain ⟨lamps, timer, stage, hfinish⟩ := s.fastFillTick.rotationTick.composeTick.finish_parts
  obtain ⟨message, odo, bright, hcompose⟩ := s.fastFillTick.rotationTick.composeTick_eq
  refine ⟨message, odo, bright, lamps, timer, stage, ?_⟩
  have hrotate : s.fastFillTick.rotationTick =
      s.fastFillTick.setReadout { s.readout with
        rotCount := s.readout.rotate.rotCount, rotPos := s.readout.rotate.rotPos } := by
    rw [← s.readout.rotate_eq.1, s.fastFillTick_eq]
    rfl
  rw [hfinish, hcompose, hrotate, s.fastFillTick_eq]
  rfl

/-- A tick in a state that composes leaves nothing for a composition to change. -/
theorem State.compose_tripEnd {s : State} (h : s.pw.state = .standby ∨ s.pw.state = .active ∨ s.pw.state = .crank) :
    s.fastFillTick.rotationTick.composeTick.finish.compose = s.fastFillTick.rotationTick.composeTick.finish := by
  have hruns : dispatcherRuns s.fastFillTick.rotationTick.pw.state = true := by
    rw [dispatcherRuns_iff, s.fastFillTick_eq]
    exact h
  rw [State.composeTick, if_pos hruns, State.finish_compose, State.compose_compose]

/-- What the evaluation of a tick finds, with the peers and the signals as the checks and the ageing leave them. -/
def State.tripFound (s : State) (sense : BitVec 16) (t : Nat) (peer : Peer) (sig : Signals) : State :=
  { s with
    pins := { s.pins with sense := sense }, peer := peer, sig := sig
    pw := { s.pw with time := max s.pw.time t, nextTrip := some (t + 100) }
    acc := s.acc.closeSlot s.cal.kDist, warn := { s.warn with flash := (s.warn.flash + 1) % 10 } }

/-- The freshness of an entry after the silence checks and the ageing, as one formula (R13, R14, R163). -/
theorem freshness_tick {s : State} {sig : Signals} {now : Nat} {k : SignalKind} {silent : Prop}
    [Decidable (silent ∨ lostAge k ≤ now - (s.sig.hdr k).arrival)]
    (h : (silent ∧ sig.hdr k = { s.sig.hdr k with fresh := loseFreshness (s.sig.hdr k).fresh }) ∨
      (¬ silent ∧ sig.hdr k = { s.sig.hdr k with
        fresh := agedFreshness k (s.sig.hdr k).fresh (now - (s.sig.hdr k).arrival) })) :
    sig.hdr k = { s.sig.hdr k with
      fresh :=
        if (s.sig.hdr k).fresh = .fresh ∨ (s.sig.hdr k).fresh = .stale then
          if silent ∨ lostAge k ≤ now - (s.sig.hdr k).arrival then .lost
          else if maxAge k < now - (s.sig.hdr k).arrival then .stale
          else (s.sig.hdr k).fresh
        else (s.sig.hdr k).fresh } := by
  obtain ⟨hsilent, h⟩ | ⟨hspoke, h⟩ := h
  · refine h.trans (congrArg (fun f => { s.sig.hdr k with fresh := f }) ?_)
    split
    · rename_i hheld
      rw [if_pos (.inl hsilent), loseFreshness, if_pos ((Freshness.held_iff _).mpr hheld)]
    · rename_i hheld
      rw [loseFreshness, if_neg fun h => hheld ((Freshness.held_iff _).mp h)]
  · refine h.trans (congrArg (fun f => { s.sig.hdr k with fresh := f }) ?_)
    refine (agedFreshness_after k _ _).2.trans ?_
    refine ite_congr rfl (fun _ => ite_congr (propext ⟨.inr, ?_⟩) (fun _ => rfl) (fun _ => rfl)) (fun _ => rfl)
    exact fun h => h.resolve_left hspoke

/-- Settles O17: the tick's parts in turn, each in one piece; the walk of the positions leaves the sample as it is. -/
theorem tripTick : Obligations.TripTick := by
  unfold Obligations.TripTick
  intro s sense t htick now ring quiet
  refine ⟨_, (show execTripTick sense s = _ from execTripTick_eq sense htick), ?_⟩
  rw [State.tripTick_eq]
  obtain ⟨peer, sig, hstart, hstation, hhdr, hengine, hchassis, hbody, hfuel⟩ := (s.tripBegin sense t).tripStart_eq
  have hstart : (s.tripBegin sense t).tripStart = s.tripFound sense t peer sig := hstart
  rw [hstart]
  generalize hu : State.finish _ = u
  have hcompose : s.pw.state = .standby ∨ s.pw.state = .active ∨ s.pw.state = .crank → u.compose = u := by
    intro h
    rw [← hu]
    refine State.compose_tripEnd ?_
    have hstate : (s.tripFound sense t peer sig).evaluateTick.pw.state = s.pw.state := by
      rw [State.evaluateTick]
      split <;> simp [State.tripFound]
    rwa [hstate]
  by_cases hruns : s.pw.state = .standby ∨ s.pw.state = .active
  · rw [State.evaluateTick_runs (s := s.tripFound sense t peer sig) hruns] at hu
    obtain ⟨table, next, chime, displaced, hwalk⟩ := State.Evaluates.positions
      ((s.tripFound sense t peer sig).sampleWarnings sense) s.warn.callPending (List.range 32)
      ((s.tripFound sense t peer sig).sampleWarnings sense)
    obtain ⟨message, odo, bright, lamps, timer, stage, hend⟩ := State.tripEnd_eq
      ((((s.tripFound sense t peer sig).sampleWarnings sense)).evaluatedTo table next chime displaced)
    rw [show ((s.tripFound sense t peer sig).sampleWarnings (s.tripFound sense t peer sig).pins.sense).walk
      (s.tripFound sense t peer sig).warn.callPending = _ from hwalk, hend] at hu
    subst hu
    refine ⟨rfl, rfl, rfl, rfl, rfl, hstation, fun k => freshness_tick (hhdr k), hengine, hchassis, hbody, hfuel, rfl, rfl,
      fun _ => ⟨fun n c hn hc => sampleTerms_bit sense hn hc, rfl, rfl, rfl, rfl, ?_⟩, fun h => absurd hruns h, hcompose,
      rfl, rfl, s.readout.rotate_eq.2, rfl, rfl, rfl, rfl, rfl, rfl, rfl⟩
    intro sampled walked
    have hwalked : walked = ((s.tripFound sense t peer sig).sampleWarnings sense).evaluatedTo table next chime displaced :=
      hwalk
    rw [hwalked]
    exact ⟨rfl, rfl, rfl⟩
  · rw [State.evaluateTick_waits (s := s.tripFound sense t peer sig) hruns] at hu
    obtain ⟨message, odo, bright, lamps, timer, stage, hend⟩ := (s.tripFound sense t peer sig).tripEnd_eq
    rw [hend] at hu
    subst hu
    exact ⟨rfl, rfl, rfl, rfl, rfl, hstation, fun k => freshness_tick (hhdr k), hengine, hchassis, hbody, hfuel, rfl, rfl,
      fun h => absurd h hruns, fun _ => ⟨rfl, rfl⟩, hcompose,
      rfl, rfl, s.readout.rotate_eq.2, rfl, rfl, rfl, rfl, rfl, rfl, rfl⟩

end Sys2Proof.Machine
end

section
/-! PROOFS. The end of LOAD: the entry to the state after it, and what that leaves of the reading (O6). -/

namespace Sys2Proof.Machine

/-! ## The entry to ACTIVE, CRANK or STANDBY after LOAD or STABILISE -/

/-- The power state after LOAD or STABILISE, by the levels of RUN and START (R170). -/
def Pins.powerAfter (p : Pins) : Power := if p.run then (if p.start then .crank else .active) else .standby

/-- What the entry to the state after LOAD leaves of the state before it. -/
structure State.Entered (v t : State) : Prop where
  outside : t.pins = v.pins ∧ t.mem = v.mem ∧ t.pending = v.pending
  blocks : t.cal = v.cal ∧ t.sig = v.sig ∧ t.gauges = v.gauges ∧ t.service = v.service
  power : t.pw = { v.pw with
    state := v.pins.powerAfter, queue := if v.pins.run then v.pw.queue else v.odometerQueue
    keepAlive := t.pw.keepAlive, returning := t.pw.returning }
  accum : t.acc = if v.pins.run then v.acc.timed else v.acc
  trip : t.trip = { v.trip with fastFill := if v.pins.run && !v.pins.start then 30 else 0 }
  warn : t.warn = { v.warn with
    lampTest := if v.pins.run then some (v.pw.time + 3000) else v.warn.lampTest, lamps := t.warn.lamps }
  silent : t.chime.mode = .silent ↔ v.pins.powerAfter = .crank
  chimes : t.chime.queue = v.chime.queue
  line : t.line = { v.line with tx := t.line.tx }
  announced : v.pins.run = true → v.line.tx.length < 8 →
    t.line.tx = (txRequest v.line.tx kindOdoAnnounce none (announceData t.acc)).queue
  unannounced : v.pins.run = false → t.line.tx = v.line.tx
  peer : t.peer = { v.peer with report := t.peer.report }
  day : t.readout.day = v.readout.day
  composed : t.compose = t

theorem Pins.powerAfter_standby {p : Pins} (h : p.run = false) : p.powerAfter = .standby := by
  simp [Pins.powerAfter, h]

theorem Pins.powerAfter_active {p : Pins} (hrun : p.run = true) (hstart : p.start = false) : p.powerAfter = .active := by
  simp [Pins.powerAfter, hrun, hstart]

theorem Pins.powerAfter_crank {p : Pins} (hrun : p.run = true) (hstart : p.start = true) : p.powerAfter = .crank := by
  simp [Pins.powerAfter, hrun, hstart]

/-- A composed state, settled, in one piece. -/
theorem State.compose_finish_eq (s : State) : ∃ message odo bright lamps timer stage, s.compose.finish =
    { s with
      readout := { s.readout with message := message, odoShown := odo, brightness := bright }
      warn := { s.warn with lamps := lamps }, pw := { s.pw with keepAlive := timer, returning := stage } } := by
  obtain ⟨lamps, timer, stage, hfinish⟩ := s.compose.finish_parts
  refine ⟨s.compose.readout.message, s.compose.readout.odoShown, s.compose.readout.brightness, lamps, timer, stage, ?_⟩
  rw [hfinish]
  exact congrArg (fun u : State =>
    { u with warn := { u.warn with lamps := lamps }, pw := { u.pw with keepAlive := timer, returning := stage } })
    s.compose_readout

theorem State.compose_composed (s : State) : s.compose.finish.compose = s.compose.finish := by
  rw [State.finish_compose, State.compose_compose]

/-- An announcement changes the transmit queue, the report sequence and the tallies alone. -/
theorem State.announce_queued (s : State) : ∃ tx report tally, s.announce = s.queued tx report tally ∧
    (s.line.tx.length < 8 → tx = (txRequest s.line.tx kindOdoAnnounce none (announceData s.acc)).queue) := by
  obtain ⟨tx, report, tally, h⟩ := s.sendFrame_queued kindOdoAnnounce none (announceData s.acc)
  refine ⟨tx, report, tally, h, fun hroom => ?_⟩
  have htx := State.sendFrame_tx (kind := kindOdoAnnounce) (subject := none) (data := announceData s.acc) hroom
  rwa [h] at htx

theorem Chimes.awaken_sounds (c : Chimes) (now : Nat) : (c.awaken now).mode ≠ .silent := by
  rw [Chimes.awaken, ne_eq, Chimes.passToHead_silent]
  simp

theorem Chimes.awaken_queue (c : Chimes) (now : Nat) : (c.awaken now).queue = c.queue := passToHead_queue _ _

theorem State.enterByRun_entered (v : State) : v.Entered v.enterByRun.finish := by
  by_cases hrun : v.pins.run = true
  · obtain ⟨tx, report, tally, hannounce, htx⟩ := (v.setAcc v.acc.timed).announce_queued
    by_cases hstart : v.pins.start = true
    · have henter : v.enterByRun =
          (((v.setAcc v.acc.timed).queued tx report tally).enteredFrom v.pw.time .crank 0 v.chime.silence).compose := by
        rw [State.enterByRun, if_pos hrun, State.enterActiveFresh_crank hstart, hannounce]
      have hcomposed : v.enterByRun.finish.compose = v.enterByRun.finish := by rw [henter, State.compose_composed]
      obtain ⟨message, odo, bright, lamps, timer, stage, hfinish⟩ := State.compose_finish_eq
        (((v.setAcc v.acc.timed).queued tx report tally).enteredFrom v.pw.time .crank 0 v.chime.silence)
      have hpower := Pins.powerAfter_crank hrun hstart
      rw [henter, hfinish] at hcomposed ⊢
      refine ⟨⟨rfl, rfl, rfl⟩, ⟨rfl, rfl, rfl, rfl⟩, ?_, (if_pos hrun).symm, ?_, ?_, iff_of_true rfl hpower, rfl, rfl,
        fun _ => htx, fun h => absurd hrun (by simp [h]), rfl, rfl, hcomposed⟩
      · rw [hpower, if_pos hrun]
        rfl
      · rw [if_neg (by simp [hstart])]
        rfl
      · rw [if_pos hrun]
        rfl
    · have hstart : v.pins.start = false := by simpa using hstart
      have henter : v.enterByRun =
          (((v.setAcc v.acc.timed).queued tx report tally).enteredFrom v.pw.time .active 30
            (v.chime.awaken v.pw.time)).compose := by
        rw [State.enterByRun, if_pos hrun, State.enterActiveFresh_active hstart, hannounce]
      have hcomposed : v.enterByRun.finish.compose = v.enterByRun.finish := by rw [henter, State.compose_composed]
      obtain ⟨message, odo, bright, lamps, timer, stage, hfinish⟩ := State.compose_finish_eq
        (((v.setAcc v.acc.timed).queued tx report tally).enteredFrom v.pw.time .active 30 (v.chime.awaken v.pw.time))
      have hpower := Pins.powerAfter_active hrun hstart
      rw [henter, hfinish] at hcomposed ⊢
      refine ⟨⟨rfl, rfl, rfl⟩, ⟨rfl, rfl, rfl, rfl⟩, ?_, (if_pos hrun).symm, ?_, ?_,
        iff_of_false (Chimes.awaken_sounds _ _) (by simp [hpower]), Chimes.awaken_queue _ _, rfl,
        fun _ => htx, fun h => absurd hrun (by simp [h]), rfl, rfl, hcomposed⟩
      · rw [hpower, if_pos hrun]
        rfl
      · rw [if_pos (by simp [hrun, hstart])]
        rfl
      · rw [if_pos hrun]
        rfl
  · have hrun' : v.pins.run = false := by simpa using hrun
    have henter : v.enterByRun =
        (((v.setPw { v.pw with state := .standby, queue := v.odometerQueue }).setTrip
          { v.trip with fastFill := 0 }).setChime (v.chime.awaken v.pw.time)).compose := by
      rw [State.enterByRun, if_neg hrun, State.enterStandbyTone, State.standbyEntry_eq]
      rfl
    have hcomposed : v.enterByRun.finish.compose = v.enterByRun.finish := by rw [henter, State.compose_composed]
    obtain ⟨message, odo, bright, lamps, timer, stage, hfinish⟩ := State.compose_finish_eq
      (((v.setPw { v.pw with state := .standby, queue := v.odometerQueue }).setTrip
          { v.trip with fastFill := 0 }).setChime (v.chime.awaken v.pw.time))
    have hpower := Pins.powerAfter_standby hrun'
    rw [henter, hfinish] at hcomposed ⊢
    refine ⟨⟨rfl, rfl, rfl⟩, ⟨rfl, rfl, rfl, rfl⟩, ?_, (if_neg hrun).symm, ?_, ?_,
      iff_of_false (Chimes.awaken_sounds _ _) (by simp [hpower]), Chimes.awaken_queue _ _, rfl,
      fun h => absurd h hrun, fun _ => rfl, rfl, rfl, hcomposed⟩
    · rw [hpower, if_neg hrun]
      rfl
    · rw [if_neg (by simp [hrun'])]
      rfl
    · rw [if_neg hrun]
      rfl

/-! ## LOAD_END (R171) -/

/-- The part when reading has ended: the straps read, and 250 ms gone by where it was not complete. -/
def State.readingEnded (s : State) (wordsRead : Nat) : State :=
  if wordsRead < 446 then s.strapsRead.advanceTo 250 else s.strapsRead

theorem execLoadEnd_eq {s : State} (wordsRead : Nat) (silent : List Nat) (h : s.pw.state = .load) :
    execLoadEnd wordsRead silent s =
      .next ((s.readingEnded wordsRead).takeImage (loadImage s.mem wordsRead silent)).enterByRun.finish := by
  have hmem : (s.readingEnded wordsRead).mem = s.mem := by
    unfold State.readingEnded State.strapsRead
    (repeat' split) <;> rfl
  rw [← hmem, execLoadEnd, if_pos h]
  rfl

/-- The reading of the straps and the time at its end leave every block but Power and Timebase and the generator. -/
theorem State.readingEnded_eq (s : State) (wordsRead : Nat) : s.readingEnded wordsRead =
    { s with
      pw := { s.pw with
        time := if wordsRead < 446 then max s.pw.time 250 else s.pw.time
        station := if s.peer.generator = none then s.pins.straps else s.pw.station
        role := if s.peer.generator = none then roleOf s.pins.roleHigh else s.pw.role }
      peer := { s.peer with
        generator := if s.peer.generator = none then some (sequenceSeed s.pins.straps) else s.peer.generator } } := by
  unfold State.readingEnded State.strapsRead
  (repeat' split) <;> rfl

theorem serviceWords_evaluate (items : List ServiceItem) (odo day hours : Nat) :
    serviceWords (items.map (fun x => x.evaluate odo day hours)) = serviceWords items := by
  unfold serviceWords
  rw [List.flatMap_map]
  rfl

theorem State.takeOdometer_timer (s : State) (i : Image) : (s.takeOdometer i).acc.unknownTimer = s.acc.unknownTimer := by
  unfold State.takeOdometer
  split <;> rfl

/-- Power and Timebase after the reading: the settings, and the SERVICE write of the items as they then stand. -/
theorem State.takeImage_pw_eq (s : State) (i : Image) : (s.takeImage i).pw = { s.pw with
    units := (calShares i).cal.units, overspeed := (calShares i).cal.overspeed, volume := (calShares i).cal.volume
    clock12 := (calShares i).cal.clock12, calFault := (calShares i).fault
    queue := if i.valid 400 24 then s.pw.queue
      else writeRequest s.pw.queue .service (serviceWords (s.takeImage i).service.items) } := by
  rw [State.takeImage_pw, State.takeImage_service]
  dsimp only
  rw [serviceWords_evaluate]
  show (if i.valid 400 24 = true then _ else _) = _
  split <;> rfl

theorem State.readingEnded_frame (s : State) (wordsRead : Nat) :
    (s.readingEnded wordsRead).pins = s.pins ∧ (s.readingEnded wordsRead).mem = s.mem ∧
      (s.readingEnded wordsRead).sig = s.sig ∧ (s.readingEnded wordsRead).line = s.line ∧
      (s.readingEnded wordsRead).acc = s.acc ∧ (s.readingEnded wordsRead).trip = s.trip ∧
      (s.readingEnded wordsRead).warn = s.warn ∧ (s.readingEnded wordsRead).chime = s.chime ∧
      (s.readingEnded wordsRead).pending = s.pending ∧ (s.readingEnded wordsRead).pw.queue = s.pw.queue := by
  rw [State.readingEnded_eq]
  exact ⟨rfl, rfl, rfl, rfl, rfl, rfl, rfl, rfl, rfl, rfl⟩

/-- The state in which the entry after LOAD begins. -/
def State.loadRead (s : State) (wordsRead : Nat) (silent : List Nat) : State :=
  (s.readingEnded wordsRead).takeImage (loadImage s.mem wordsRead silent)

theorem State.loadRead_frame (s : State) (wordsRead : Nat) (silent : List Nat) :
    (s.loadRead wordsRead silent).pins = s.pins ∧ (s.loadRead wordsRead silent).mem = s.mem ∧
      (s.loadRead wordsRead silent).sig = s.sig ∧ (s.loadRead wordsRead silent).chime = s.chime ∧
      (s.loadRead wordsRead silent).pending = s.pending ∧
      (s.loadRead wordsRead silent).acc.unknownTimer = s.acc.unknownTimer ∧
      (s.loadRead wordsRead silent).warn.lampTest = s.warn.lampTest := by
  obtain ⟨hpins, hmem, hsig, -, hacc, -, hwarn, hchime, hpending, -⟩ := s.readingEnded_frame wordsRead
  unfold State.loadRead
  simp only [State.takeImage_frame, State.takeImage_acc, State.takeOdometer_timer, State.takeImage_warn, hpins, hmem, hsig,
    hacc, hwarn, hchime, hpending, and_self]

/-- The line once its levels are applied to the frames that wait (R155). -/
theorem State.loadRead_line (s : State) (wordsRead : Nat) (silent : List Nat) :
    (s.loadRead wordsRead silent).line =
      s.line.applyLevels (calShares (loadImage s.mem wordsRead silent)).halt
        (calShares (loadImage s.mem wordsRead silent)).resume := by
  obtain ⟨-, -, -, hline, -⟩ := s.readingEnded_frame wordsRead
  rw [State.loadRead, State.takeImage_line, hline]

theorem State.loadRead_pw (s : State) (wordsRead : Nat) (silent : List Nat) :
    (s.loadRead wordsRead silent).pw =
      let shares := calShares (loadImage s.mem wordsRead silent)
      { s.pw with
        time := if wordsRead < 446 then max s.pw.time 250 else s.pw.time
        station := if s.peer.generator = none then s.pins.straps else s.pw.station
        role := if s.peer.generator = none then roleOf s.pins.roleHigh else s.pw.role
        units := shares.cal.units, overspeed := shares.cal.overspeed, volume := shares.cal.volume
        clock12 := shares.cal.clock12, calFault := shares.fault
        queue := if (loadImage s.mem wordsRead silent).valid 400 24 then s.pw.queue
          else writeRequest s.pw.queue .service (serviceWords (s.loadRead wordsRead silent).service.items) } := by
  rw [State.loadRead, State.takeImage_pw_eq, State.readingEnded_eq]

theorem State.loadRead_peer (s : State) (wordsRead : Nat) (silent : List Nat) :
    (s.loadRead wordsRead silent).peer = { s.peer with
      generator := if s.peer.generator = none then some (sequenceSeed s.pins.straps) else s.peer.generator } := by
  rw [State.loadRead, (State.takeImage_frame _ _).2.2.2.1, State.readingEnded_eq]

/-- Settles O6: the straps and the reading leave what the entry then finds, and the entry is the same in each of its states. -/
theorem loadEndState : Obligations.LoadEndState := by
  unfold Obligations.LoadEndState
  intro s wordsRead silent hload i unread
  obtain ⟨hpins, hmem, hsig, hchime, hpending, htimer, hlamp⟩ := s.loadRead_frame wordsRead silent
  have hline := s.loadRead_line wordsRead silent
  have hpw := s.loadRead_pw wordsRead silent
  have hpeer := s.loadRead_peer wordsRead silent
  refine ⟨(s.loadRead wordsRead silent).enterByRun.finish,
    (show execLoadEnd wordsRead silent s = _ from execLoadEnd_eq wordsRead silent hload), ?_⟩
  have hentered := (s.loadRead wordsRead silent).enterByRun_entered
  generalize s.loadRead wordsRead silent = v at *
  generalize v.enterByRun.finish = t at *
  obtain ⟨⟨hpins', hmem', hpending'⟩, ⟨-, hsig', -, hservice⟩, hpower, haccum, htrip, hwarn, hsilent, hchimes, hline',
    hannounced, hunannounced, hpeer', -, hcomposed⟩ := hentered
  rw [hpins] at hpower haccum htrip hwarn hsilent hannounced hunannounced
  have hrun : s.pins.run = true ∨ s.pins.run = false := by cases s.pins.run <;> simp
  have htime : t.pw.time = if wordsRead < 446 then max s.pw.time 250 else s.pw.time := by rw [hpower, hpw]
  have hstate : t.pw.state = s.pins.powerAfter := by rw [hpower]
  have hunknown : t.acc.odoUnknown = v.acc.odoUnknown ∧ t.acc.odo = v.acc.odo := by
    rw [haccum]
    split <;> exact ⟨rfl, rfl⟩
  have htx : v.line.tx = s.line.tx := by rw [hline, Line.applyLevels_tx]
  refine ⟨hstate, htime, by rw [htrip], ?lamp, by rw [hsilent, hstate], by rw [hchimes, hchime], ?announce, ?silence, ?queue,
    ?timer, hcomposed, ?holding, ?unread, ?read, hpins'.trans hpins, hmem'.trans hmem, hsig'.trans hsig, ?inbound,
    hpending'.trans hpending, by rw [hpeer', hpeer]⟩
  case lamp =>
    have hnow : v.pw.time = t.pw.time := by rw [hpower]
    rw [hwarn, hnow, hlamp]
  case announce =>
    rw [← htx]
    exact hannounced
  case silence =>
    rw [← htx]
    exact hunannounced
  case queue =>
    have hsaved : v.pw.queue = if i.valid 400 24 then s.pw.queue
        else writeRequest s.pw.queue .service (serviceWords t.service.items) := by rw [hservice, hpw]
    intro saved
    have hsaved : v.pw.queue = saved := hsaved
    rw [hpower, hunknown.1, hunknown.2]
    dsimp only
    rw [State.odometerQueue, hsaved]
    obtain hrun | hrun := hrun
    · rw [if_pos hrun, if_pos (.inl hrun)]
    · rw [if_neg (by simp [hrun])]
      refine ite_congr (propext ⟨.inr, ?_⟩) (fun _ => rfl) (fun _ => rfl)
      exact fun h => h.resolve_left (by simp [hrun])
  case timer =>
    rw [hunknown.1, haccum, ← htimer]
    obtain hrun | hrun := hrun
    · rw [if_pos hrun]
      refine ite_congr (propext ⟨fun h => ⟨hrun, h⟩, fun h => h.2⟩) (fun _ => rfl) (fun _ => rfl)
    · rw [if_neg (by simp [hrun]), if_neg (by simp [hrun])]
  case holding =>
    rw [hline', hline]
    rfl
  case unread =>
    intro hnone
    rw [hpower, hpeer', hpw, hpeer]
    exact ⟨if_pos hnone, if_pos hnone, if_pos hnone⟩
  case read =>
    intro hsome
    rw [hpower, hpeer', hpw, hpeer]
    exact ⟨if_neg hsome, if_neg hsome, if_neg hsome⟩
  case inbound =>
    rw [hline', hline]
    rfl

end Sys2Proof.Machine
end

section
/-! PROOFS. What the end of LOAD restores: the odometer, the counters, the trips and the baselines (O8). -/

namespace Sys2Proof.Machine

/-! ## The shares of the reading -/

/-- The odometer of the best slot, or the unknown one (R27). -/
theorem State.takeOdometer_spec (s : State) (i : Image) :
    ((∀ k, k < 8 → slotOf i k = none) ∧ (s.takeOdometer i).acc.odo = 0 ∧ (s.takeOdometer i).acc.odoUnknown = true ∧
        (s.takeOdometer i).acc.unknownCond = true ∧ (s.takeOdometer i).acc.slot = none ∧
        (s.takeOdometer i).acc.metres = 0) ∨
      ∃ k v, k < 8 ∧ slotOf i k = some v ∧ (∀ j w, j < 8 → slotOf i j = some w → w ≤ v ∧ (w = v → k ≤ j)) ∧
        (s.takeOdometer i).acc.odo = v ∧ (s.takeOdometer i).acc.odoUnknown = false ∧
        (s.takeOdometer i).acc.unknownCond = false ∧ (s.takeOdometer i).acc.slot = some k ∧
        (s.takeOdometer i).acc.metres = 0 := by
  obtain ⟨hbest, hnone⟩ | ⟨k, v, hbest, -, hk, hslot, hmax⟩ := bestSlot_spec i 0 8
  · have hacc : s.takeOdometer i =
        s.setAcc { s.acc with odo := 0, slot := none, odoUnknown := true, unknownCond := true, metres := 0 } := by
      simp only [State.takeOdometer, hbest]
    rw [hacc]
    exact .inl ⟨fun k hk => hnone k (Nat.zero_le k) (by omega), rfl, rfl, rfl, rfl, rfl⟩
  · have hacc : s.takeOdometer i =
        s.setAcc { s.acc with odo := v, slot := some k, odoUnknown := false, unknownCond := false, metres := 0 } := by
      simp only [State.takeOdometer, hbest]
    rw [hacc]
    exact .inr ⟨k, v, by omega, hslot, fun j w hj hw => hmax j w (Nat.zero_le j) (by omega) hw, rfl, rfl, rfl, rfl, rfl⟩

/-- A record saved in three words, the bits above them in other words (R58). -/
def Image.savedRecord (i : Image) (a high fuel : Nat) : TripRecord :=
  { dist := min 9999999 ((high * 65536 + i.nat a) * 10), fuel := min 999999 ((fuel * 65536 + i.nat (a + 1)) * 10)
    elapsed := min 359999 (i.nat (a + 2) * 60) }

theorem State.takeTrip_invalid {i : Image} (s : State) (h : i.valid 425 16 = false) :
    (s.takeTrip i).trip = { s.trip with
      a := TripRecord.zero, b := TripRecord.zero, snapA := TripRecord.zero, snapB := TripRecord.zero
      winDist := 0, winFuel := 0 } := by
  unfold State.takeTrip
  rw [if_neg (show ¬ i.valid tripBase 16 = true by simp [tripBase, h])]
  rfl

/-- The records, the snapshots and the window as saved, the window halved until it lies below 64,000 m (R58, R46). -/
theorem State.takeTrip_valid {i : Image} (s : State) (h : i.valid 425 16 = true) :
    ∃ k, k ≤ 4 ∧ i.nat 437 * 10 / 2 ^ k < 64000 ∧ (∀ j, j < k → 64000 ≤ i.nat 437 * 10 / 2 ^ j) ∧
      (s.takeTrip i).trip = { s.trip with
        a := i.savedRecord 425 (i.nat 439 / 4096) (i.nat 440 / 8 % 2)
        b := i.savedRecord 428 (i.nat 439 / 256 % 16) (i.nat 440 / 4 % 2)
        snapA := i.savedRecord 431 (i.nat 439 / 16 % 16) (i.nat 440 / 2 % 2)
        snapB := i.savedRecord 434 (i.nat 439 % 16) (i.nat 440 % 2)
        winDist := i.nat 437 * 10 / 2 ^ k
        winFuel := min 999999 ((i.nat 440 / 16 % 2 * 65536 + i.nat 438) * 10) / 2 ^ k } := by
  have hword := i.nat_le 437
  have hhigh : i.nat 439 / 4096 % 16 = i.nat 439 / 4096 := by
    have := i.nat_le 439
    omega
  obtain ⟨k, hk, hbelow, habove, heq⟩ := Trip.windowOf_eq
    { s.trip with
      a := i.savedRecord 425 (i.nat 439 / 4096) (i.nat 440 / 8 % 2)
      b := i.savedRecord 428 (i.nat 439 / 256 % 16) (i.nat 440 / 4 % 2)
      snapA := i.savedRecord 431 (i.nat 439 / 16 % 16) (i.nat 440 / 2 % 2)
      snapB := i.savedRecord 434 (i.nat 439 % 16) (i.nat 440 % 2) }
    ((i.nat 440 / 16 % 2 * 65536 + i.nat 438) * 10) (dist := i.nat 437 * 10) (by omega)
  refine ⟨k, hk, hbelow, habove, ?_⟩
  unfold State.takeTrip
  rw [if_pos (show i.valid tripBase 16 = true from h)]
  refine Eq.trans ?_ heq
  simp only [bitField, Nat.reduceSub, Nat.reduceAdd, Nat.reducePow, Nat.div_one, hhigh]
  rfl

/-- The items of the calibration, before their baselines are taken. -/
def Image.freshItems (i : Image) : List ServiceItem := (calShares i).services.map ServiceItem.calibrated

/-- The items after LOAD: their baselines as saved or as things stand, and an evaluation (R128). -/
theorem State.takeImage_items (s : State) (i : Image) :
    (s.takeImage i).service.items =
      (if i.valid 400 24 then restoreItems i (s.takeImage i).acc.odo i.freshItems 0
       else i.freshItems.map (fun x =>
        { x with odoBase := (s.takeImage i).acc.odo, dayBase := (s.takeImage i).readout.day
                 hoursBase := (s.takeImage i).service.hours / 10 })).map
        (fun x => x.evaluate (s.takeImage i).acc.odo (s.takeImage i).readout.day (s.takeImage i).service.hours) := by
  have hodo : ((s.takeCalibration (calShares i)).takeOdometer i).acc.odo = (s.takeOdometer i).acc.odo := by
    unfold State.takeOdometer
    split <;> rfl
  have hhours : (s.takeImage i).service.hours = (s.takeCounters i).service.hours := by rw [State.takeImage_service]
  rw [hhours, State.takeImage_acc, State.takeImage_readout, State.takeImage_service]
  dsimp only
  refine congrArg (List.map _) ?_
  unfold State.baselined
  simp only [State.takeTrip_frame, State.takeCounters_frame, hodo]
  have hservice : ((s.takeCalibration (calShares i)).takeOdometer i).service =
      { s.service with items := i.freshItems } := by simp [State.takeCalibration, Image.freshItems]
  have hcounters : (((s.takeCalibration (calShares i)).takeOdometer i).takeCounters i).service =
      { (s.takeCounters i).service with items := i.freshItems } := by
    simp only [State.takeCounters, hservice]
    rfl
  rw [hcounters]
  rfl

theorem restoreItems_getElem? (i : Image) (odo : Nat) (items : List ServiceItem) (n k : Nat) :
    (restoreItems i odo items n)[k]? = items[k]?.map (fun x => x.restored i (400 + 4 * (n + k)) odo) := by
  induction items generalizing n k with
  | nil => simp [restoreItems]
  | cons x rest ih =>
    cases k with
    | zero => rfl
    | succ j =>
      rw [restoreItems, List.getElem?_cons_succ, List.getElem?_cons_succ, ih, show n + 1 + j = n + (j + 1) by omega]

/-! ## The write of the baselines (R128) -/

theorem writeRequest_mem (q : List WriteEntry) (k : WriteKey) (d : List Word) :
    { key := k, data := d } ∈ writeRequest q k d := by
  obtain ⟨hany, heq⟩ | ⟨-, heq⟩ := writeRequest_cases q k d
  · obtain ⟨e, he, hkey⟩ := List.any_eq_true.mp hany
    rw [heq, List.mem_map]
    refine ⟨e, he, ?_⟩
    rw [if_pos hkey, ← eq_of_beq hkey]
  · rw [heq]
    exact List.mem_append_right _ List.mem_cons_self

/-- A request leaves the entries of other keys. -/
theorem writeRequest_mem_other {q : List WriteEntry} {k : WriteKey} (d : List Word) {e : WriteEntry} (he : e ∈ q)
    (hne : e.key ≠ k) : e ∈ writeRequest q k d := by
  obtain ⟨-, heq⟩ | ⟨-, heq⟩ := writeRequest_cases q k d
  · rw [heq, List.mem_map]
    exact ⟨e, he, if_neg (by simpa using hne)⟩
  · rw [heq]
    exact List.mem_append_left _ he

/-- Settles O8: each share from its area; the entry after LOAD leaves them all. -/
theorem loadEndRestores : Obligations.LoadEndRestores := by
  unfold Obligations.LoadEndRestores
  intro s wordsRead silent hload i
  refine ⟨(s.loadRead wordsRead silent).enterByRun.finish,
    (show execLoadEnd wordsRead silent s = _ from execLoadEnd_eq wordsRead silent hload), ?_⟩
  have hentered := (s.loadRead wordsRead silent).enterByRun_entered
  have hpw := s.loadRead_pw wordsRead silent
  have hread : s.loadRead wordsRead silent = (s.readingEnded wordsRead).takeImage i := rfl
  have hitems := (s.readingEnded wordsRead).takeImage_items i
  have hacc := (s.readingEnded wordsRead).takeImage_acc i
  have htrip := (s.readingEnded wordsRead).takeImage_trip i
  have hcounters : (s.loadRead wordsRead silent).service.hours =
        (if i.valid 442 3 then min 999999 (i.nat 442 * 65536 + i.nat 443) else 0) ∧
      (s.loadRead wordsRead silent).service.seconds = 0 ∧
      (s.loadRead wordsRead silent).readout.day = if i.valid 442 3 then i.nat 444 else 0 := by
    rw [hread, State.takeImage_service, State.takeImage_readout]
    exact ⟨rfl, rfl, rfl⟩
  rw [← hread] at hitems hacc htrip
  generalize s.loadRead wordsRead silent = v at *
  generalize v.enterByRun.finish = t at *
  obtain ⟨-, ⟨-, -, -, hservice⟩, hpower, haccum, htrip', -, -, -, -, -, -, -, hday, -⟩ := hentered
  obtain ⟨hhours, hseconds, hdays⟩ := hcounters
  have hodometer : t.acc.odo = v.acc.odo ∧ t.acc.odoUnknown = v.acc.odoUnknown ∧ t.acc.unknownCond = v.acc.unknownCond ∧
      t.acc.slot = v.acc.slot ∧ t.acc.metres = v.acc.metres := by
    rw [haccum]
    split <;> exact ⟨rfl, rfl, rfl, rfl, rfl⟩
  obtain ⟨hodo, hunknown, hcond, hslot, hmetres⟩ := hodometer
  rw [hodo, hunknown, hcond, hslot, hmetres, hday, hservice]
  refine ⟨fun hnone => ?none, fun hsome => ?some, ?metres, hhours, hseconds, hdays, fun hinvalid => ?noTrip,
    fun hvalid => ?trip, fun hvalid n x hx => ?saved, fun hinvalid => ⟨fun x hx => ?restarted, ?write⟩, fun x hx => ?state⟩
  case none =>
    rw [hacc]
    obtain ⟨-, hodo, hunknown, hcond, hslot, -⟩ | ⟨k, v, hk, hfound, -⟩ := State.takeOdometer_spec _ i
    · exact ⟨hodo, hunknown, hcond, hslot⟩
    · exact absurd (hfound.symm.trans (hnone k hk)) (by simp)
  case some =>
    rw [hacc]
    obtain ⟨hnone, -⟩ | ⟨k, v, hk, hfound, hmax, hodo, hunknown, hcond, hslot, -⟩ := State.takeOdometer_spec _ i
    · obtain ⟨j, hj, hvalid⟩ := hsome
      exact absurd (hnone j hj) hvalid
    · rw [hodo]
      exact ⟨k, hk, hslot, hfound, hmax, hunknown, hcond⟩
  case metres =>
    rw [hacc]
    obtain ⟨-, -, -, -, -, h⟩ | ⟨_, _, -, -, -, -, -, -, -, h⟩ := State.takeOdometer_spec _ i <;> exact h
  case noTrip =>
    rw [htrip', htrip, State.takeTrip_invalid _ hinvalid]
    exact ⟨rfl, rfl, rfl, rfl, rfl, rfl⟩
  case trip =>
    intro saved dist fuel
    obtain ⟨k, hk, hbelow, habove, heq⟩ := State.takeTrip_valid (s.readingEnded wordsRead) hvalid
    rw [htrip', htrip, heq]
    exact ⟨rfl, rfl, rfl, rfl, k, hk, hbelow, habove, rfl, rfl⟩
  case saved =>
    rw [hitems, if_pos hvalid, List.getElem?_map, restoreItems_getElem?, Option.map_map] at hx
    obtain ⟨y, -, rfl⟩ := Option.map_eq_some_iff.mp hx
    rw [Nat.zero_add, show 401 + 4 * n = 400 + 4 * n + 1 by omega, show 402 + 4 * n = 400 + 4 * n + 2 by omega,
      show 403 + 4 * n = 400 + 4 * n + 3 by omega]
    exact ⟨rfl, rfl, rfl⟩
  case restarted =>
    rw [hitems, if_neg (by simp [hinvalid]), List.map_map] at hx
    obtain ⟨y, -, rfl⟩ := List.mem_map.mp hx
    exact ⟨rfl, rfl, rfl⟩
  case write =>
    refine ⟨{ key := .service, data := serviceWords v.service.items }, ?_, rfl, rfl⟩
    have hmem : { key := .service, data := serviceWords v.service.items } ∈ v.pw.queue := by
      rw [hpw]
      dsimp only
      rw [if_neg (show ¬ i.valid 400 24 = true by simp [hinvalid])]
      exact writeRequest_mem _ _ _
    rw [hpower]
    dsimp only
    split
    · exact hmem
    · unfold State.odometerQueue
      split
      · exact hmem
      · exact writeRequest_mem_other _ hmem (by simp)
  case state =>
    rw [hitems] at hx
    obtain ⟨y, -, rfl⟩ := List.mem_map.mp hx
    rfl

end Sys2Proof.Machine
end

section
/-! PROOFS. What the end of LOAD takes from the CALIBRATION area: the fields of the image, with their clamps (O7). -/

namespace Sys2Proof.Machine

/-! ## Codes and bit fields (R177) -/

theorem sourceOf_eq (code : Nat) :
    sourceOf code = [Source.off, .speed, .engineSpeed, .fuelLevel, .coolant, .oil, .battery].getD code .off := by
  match code with
  | 0 | 1 | 2 | 3 | 4 | 5 | 6 => rfl
  | _ + 7 => rfl

theorem pullOf_eq (code : Nat) : pullOf code = [Pull.none, .up, .down].getD code .none := by
  match code with
  | 0 | 1 | 2 => rfl
  | _ + 3 => rfl

theorem kindOfCode_eq {code : Nat} (h : code < 4) :
    kindOfCode code = [SignalKind.engine, .chassis, .body, .fuelLevel].getD code .engine := by
  match code, h with
  | 0, _ | 1, _ | 2, _ | 3, _ => rfl

theorem operatorOf_eq (code : Nat) : operatorOf code = [Operator.none, .and, .or, .andNot].getD code .none := by
  match code with
  | 0 | 1 | 2 | 3 => rfl
  | _ + 4 => rfl

theorem gateOf_eq (code : Nat) : gateOf code = [Gate.any, .run, .off].getD code .any := by
  match code with
  | 0 | 1 | 2 => rfl
  | _ + 3 => rfl

theorem triggerOf_eq (code : Nat) : triggerOf code = [Trigger.level, .edgeRise, .edgeFall, .edgeAny].getD code .level := by
  match code with
  | 0 | 1 | 2 | 3 => rfl
  | _ + 4 => rfl

theorem audienceOf_eq (code : Nat) : audienceOf code = [Audience.front, .rear, .both].getD code .both := by
  match code with
  | 0 | 1 | 2 => rfl
  | _ + 3 => rfl

theorem classOf_eq (trigger : Trigger) (code : Nat) :
    classOf trigger code = if code = 0 ∧ trigger = .level then .a else if code ≤ 1 then .b else .c := by
  match code with
  | 0 =>
    unfold classOf
    by_cases h : trigger = .level <;> simp [h]
  | 1 => rfl
  | n + 2 =>
    rw [if_neg (by omega), if_neg (by omega)]
    rfl

/-- The term a term byte names, by its two highest bits. -/
theorem termOf_eq {b : Nat} (h : b < 256) :
    termOf b =
      if b < 64 then .pin (b % 16)
      else if b < 128 then
        .remote ([SignalKind.engine, .chassis, .body, .fuelLevel].getD (b / 16 % 4) .engine) (b % 16)
      else if b < 192 then .computed (b % 64) else .never := by
  have hform : bitField b 7 6 = b / 64 := Nat.mod_eq_of_lt (by omega)
  have hpin : bitField b 3 0 = b % 16 := by simp [bitField]
  have hcode : bitField b 5 0 = b % 64 := by simp [bitField]
  have hkind : bitField b 5 4 = b / 16 % 4 := rfl
  unfold termOf
  rw [hform, hpin, hcode, hkind, kindOfCode_eq (Nat.mod_lt _ (by omega))]
  by_cases h1 : b < 64
  · simp only [if_pos h1, show b / 64 = 0 by omega]
  · rw [if_neg h1]
    by_cases h2 : b < 128
    · simp only [if_pos h2, show b / 64 = 1 by omega]
    · rw [if_neg h2]
      by_cases h3 : b < 192
      · simp only [if_pos h3, show b / 64 = 2 by omega]
      · simp only [if_neg h3, show b / 64 = 3 by omega]

/-! ## The tank curve (R43) -/

theorem tankPoints_length (i : Image) (a n prev : Nat) : (tankPoints i a n prev).length = n := by
  induction n generalizing a prev with
  | zero => rfl
  | succ m ih => rw [tankPoints, List.length_cons, ih]

theorem tankPoints_head? {i : Image} {a n prev : Nat} {p : TankPoint} (h : (tankPoints i a n prev)[0]? = some p) :
    p.sender = max prev (min 255 (i.nat a)) := by
  cases n with
  | zero => simp [tankPoints] at h
  | succ m => exact Option.some.inj h ▸ rfl

/-- Each point of the tank curve: its volume, and its sender value against the next one's. -/
theorem tankPoints_getElem? {i : Image} {a n prev k : Nat} {p : TankPoint} (h : (tankPoints i a n prev)[k]? = some p) :
    p.volume = min 2000 (i.nat (a + 2 * k + 1)) ∧
      ∀ q, (tankPoints i a n prev)[k + 1]? = some q → q.sender = max p.sender (min 255 (i.nat (a + 2 * k + 2))) := by
  induction k generalizing a n prev with
  | zero =>
    cases n with
    | zero => simp [tankPoints] at h
    | succ m =>
      obtain rfl := Option.some.inj h
      exact ⟨rfl, fun q hq => tankPoints_head? (by exact hq)⟩
  | succ j ih =>
    cases n with
    | zero => simp [tankPoints] at h
    | succ m =>
      obtain ⟨hvolume, hnext⟩ := ih (a := a + 2) (n := m) h
      rw [show a + 2 * (j + 1) = a + 2 + 2 * j by omega]
      exact ⟨hvolume, hnext⟩

/-! ## Gauge curves (R62) -/

theorem curvePoints_length (src : Source) (i : Image) (a n : Nat) (prev : Option Int) :
    (curvePoints src i a n prev).length = n := by
  induction n generalizing a prev with
  | zero => rfl
  | succ m ih => simp only [curvePoints, List.length_cons, ih]

theorem curvePoints_first {src : Source} {i : Image} {a n : Nat} {p : CurvePoint}
    (h : (curvePoints src i a n none)[0]? = some p) : p.input = inputOf src i a := by
  cases n with
  | zero => simp [curvePoints] at h
  | succ m => exact Option.some.inj h ▸ rfl

theorem curvePoints_after {src : Source} {i : Image} {a n : Nat} {x : Int} {p : CurvePoint}
    (h : (curvePoints src i a n (some x))[0]? = some p) : p.input = max x (inputOf src i a) := by
  cases n with
  | zero => simp [curvePoints] at h
  | succ m => exact Option.some.inj h ▸ rfl

/-- Each point of a gauge curve: its angle, and its input against the next one's. -/
theorem curvePoints_getElem? {src : Source} {i : Image} {a n k : Nat} {prev : Option Int} {p : CurvePoint}
    (h : (curvePoints src i a n prev)[k]? = some p) :
    p.angle = min 1080 (i.nat (a + 2 * k + 1)) ∧
      ∀ q, (curvePoints src i a n prev)[k + 1]? = some q → q.input = max p.input (inputOf src i (a + 2 * k + 2)) := by
  induction k generalizing a n prev with
  | zero =>
    cases n with
    | zero => simp [curvePoints] at h
    | succ m =>
      obtain rfl := Option.some.inj h
      exact ⟨rfl, fun q hq => curvePoints_after (by exact hq)⟩
  | succ j ih =>
    cases n with
    | zero => simp [curvePoints] at h
    | succ m =>
      obtain ⟨hangle, hnext⟩ := ih (a := a + 2) (n := m) h
      rw [show a + 2 * (j + 1) = a + 2 + 2 * j by omega]
      exact ⟨hangle, hnext⟩

/-! ## The areas by their numbers -/

/-- An element of an area laid out over a range. -/
theorem range_map_getElem? {α : Type} {f : Nat → α} {m n : Nat} {x : α} (h : ((List.range m).map f)[n]? = some x) :
    x = f n := by
  obtain ⟨k, hk, rfl⟩ := (List.getElem?_map ▸ h : ((List.range m)[n]?).map f = some x) |> Option.map_eq_some_iff.mp
  obtain ⟨hlt, rfl⟩ := List.getElem?_eq_some_iff.mp hk
  rw [List.getElem_range]

/-- A sense input from its word (R78). -/
theorem senseOf_eq {n : Nat} (h : n ≤ 65535) :
    (senseOf n).pull = [Pull.none, .up, .down].getD (n / 256) .none ∧ ((senseOf n).activeHigh = true ↔ n % 2 = 1) := by
  have hpull : bitField n 15 8 = n / 256 := Nat.mod_eq_of_lt (by omega)
  have hlow : bitField n 0 0 = n % 2 := by simp [bitField]
  unfold senseOf
  rw [hpull, hlow, pullOf_eq]
  exact ⟨rfl, beq_iff_eq⟩

/-- The calibrated fields of a warning position from its words (R80, R177). -/
theorem warnCfgOf_eq {w0 w1 w2 : Nat} (w3 : Nat) (h0 : w0 ≤ 65535) (h2 : w2 ≤ 65535) :
    warnCfgOf w0 w1 w2 w3 =
      { term1 := termOf (w0 / 256), op := [Operator.none, .and, .or, .andNot].getD (w1 / 4096 % 8) .none
        term2 := termOf (w0 % 256), gate := [Gate.any, .run, .off].getD (w1 / 1024 % 4) .any
        trigger := [Trigger.level, .edgeRise, .edgeFall, .edgeAny].getD (w1 / 256 % 4) .level
        debounce := min 25 (w1 % 256)
        cls := if w2 / 16384 = 0 ∧ [Trigger.level, .edgeRise, .edgeFall, .edgeAny].getD (w1 / 256 % 4) .level = .level
          then .a else if w2 / 16384 ≤ 1 then .b else .c
        audience := [Audience.front, .rear, .both].getD (w2 / 4096 % 4) .both
        passAck := w2 / 2048 % 2 == 1, lamp := if w2 % 256 ≤ 11 then some (w2 % 256) else none
        text := min 39 (w3 % 256) } := by
  have hlow (n : Nat) : bitField n 7 0 = n % 256 := by simp [bitField]
  have hterm : bitField w0 15 8 = w0 / 256 := Nat.mod_eq_of_lt (by omega)
  have hclass : bitField w2 15 14 = w2 / 16384 := Nat.mod_eq_of_lt (by omega)
  have hop : bitField w1 14 12 = w1 / 4096 % 8 := rfl
  have hgate : bitField w1 11 10 = w1 / 1024 % 4 := rfl
  have htrigger : bitField w1 9 8 = w1 / 256 % 4 := rfl
  have haudience : bitField w2 13 12 = w2 / 4096 % 4 := rfl
  have hack : bitField w2 11 11 = w2 / 2048 % 2 := rfl
  unfold warnCfgOf
  rw [hlow, hlow, hlow, hlow, hterm, hclass, hop, hgate, htrigger, haudience, hack, operatorOf_eq, gateOf_eq, triggerOf_eq,
    audienceOf_eq]
  dsimp only
  rw [classOf_eq]

/-- A position is in use by the highest bit of its second word. -/
theorem positionOf_eq (i : Image) (a : Nat) :
    (i.nat (a + 1) < 32768 → positionOf i a = none) ∧
      (32768 ≤ i.nat (a + 1) → positionOf i a =
        some (Warning.cleared (warnCfgOf (i.nat a) (i.nat (a + 1)) (i.nat (a + 2)) (i.nat (a + 3))))) := by
  have hword := i.nat_le (a + 1)
  have huse : bitField (i.nat (a + 1)) 15 15 = i.nat (a + 1) / 32768 := Nat.mod_eq_of_lt (by omega)
  unfold positionOf
  rw [huse]
  exact ⟨fun h => if_neg (by omega), fun h => if_pos (by omega)⟩

/-! ## The area as a whole -/

theorem calShares_valid {i : Image} (h : calValid i = true) : calShares i =
    { cal := calOf i, halt := haltOf (i.nat 4), resume := resumeOf (haltOf (i.nat 4)) (i.nat 5),
      channels := channelsOf i, senses := sensesOf i, positions := positionsOf i, services := serviceCfgsOf i,
      fault := false } := if_pos h

theorem calShares_invalid {i : Image} (h : calValid i = false) : calShares i =
    { cal := builtInCal, halt := 12, resume := 4, channels := builtInChannels, senses := builtInSenses,
      positions := builtInPositions, services := builtInServices, fault := true } := if_neg (by simp [h])

theorem calShares_fault (i : Image) : (calShares i).fault = true ↔ calValid i = false := by
  cases h : calValid i with
  | true => simp [calShares_valid h]
  | false => simp [calShares_invalid h]

/-- The CALIBRATION area is valid when it was read whole and its check word is right (R171). -/
theorem calValid_iff (m : Memory) (wordsRead : Nat) (silent : List Nat) :
    calValid (loadImage m wordsRead silent) = true ↔
      383 < wordsRead ∧ (loadImage m wordsRead silent).word 383 =
        0xFFFF#16 - ((List.range 383).map (loadImage m wordsRead silent).word).foldl (· + ·) 0#16 := by
  have hread : 0 + 383 < (loadImage m wordsRead silent).read ↔ 383 < wordsRead := by
    show 0 + 383 < min wordsRead 446 ↔ _
    omega
  simp only [calValid, Image.valid, Bool.and_eq_true, decide_eq_true_eq, beq_iff_eq, hread, Image.words, checkWord,
    Nat.zero_add]

/-- A channel whose calibration was just taken rests at 0, its coils driven where it has a source (R62, R74, R77). -/
theorem Channel.loaded_rests (cal : ChannelCal) :
    (Channel.loaded cal).angle = 0 ∧ (Channel.loaded cal).tick = 0 ∧
      (Channel.loaded cal).state = (if cal.source = .off then .off else .resting) ∧ (Channel.loaded cal).coilA.duty = 0 ∧
      (Channel.loaded cal).coilB.duty = (if cal.source = .off then 0 else 255) ∧
      (cal.source ≠ .off → (Channel.loaded cal).coilB.positive = true) := by
  have hcoils : coilDrive 0 = ({ duty := 0, positive := true }, { duty := 255, positive := true }) := by decide
  by_cases h : cal.source = .off
  · have hloaded : Channel.loaded cal = { cal := cal, angle := 0, state := .off, tick := 0, coilA := Coil.released,
                                          coilB := Coil.released } := by
      simp only [Channel.loaded, if_pos h]
    rw [hloaded, if_pos h, if_pos h]
    exact ⟨rfl, rfl, rfl, rfl, rfl, fun _ => rfl⟩
  · have hloaded : Channel.loaded cal =
        { cal := cal, angle := 0, state := .resting, tick := 0, coilA := (coilDrive 0).1, coilB := (coilDrive 0).2 } := by
      simp only [Channel.loaded, if_neg h]
      rfl
    rw [hloaded, if_neg h, if_neg h, hcoils]
    exact ⟨rfl, rfl, rfl, rfl, rfl, fun _ => rfl⟩

theorem restoreItems_cfg (i : Image) (odo : Nat) (items : List ServiceItem) (n : Nat) :
    (restoreItems i odo items n).map ServiceItem.cfg = items.map ServiceItem.cfg := by
  induction items generalizing n with
  | nil => rfl
  | cons x rest ih =>
    rw [restoreItems, List.map_cons, List.map_cons, ih]
    rfl

/-- The items after LOAD keep the calibrated fields of the reading. -/
theorem State.takeImage_cfgs (s : State) (i : Image) :
    (s.takeImage i).service.items.map ServiceItem.cfg = (calShares i).services := by
  have hfresh : i.freshItems.map ServiceItem.cfg = (calShares i).services := by
    rw [Image.freshItems, List.map_map]
    exact List.map_id _
  rw [State.takeImage_items, List.map_map]
  show List.map ServiceItem.cfg _ = _
  split
  · rw [restoreItems_cfg, hfresh]
  · rw [List.map_map]
    exact hfresh

/-! ## The statement -/

/-- The curve, the clamps and the points of a channel as the image gives them (R62). -/
theorem channelCalOf_curve (i : Image) (a k : Nat) {p : CurvePoint} (h : (channelCalOf i a).curve[k]? = some p) :
    p.angle = min 1080 (i.nat (a + 3 + 2 * k)) ∧ (k = 0 → p.input = inputOf (channelCalOf i a).source i (a + 2)) ∧
      ∀ q, (channelCalOf i a).curve[k + 1]? = some q →
        q.input = max p.input (inputOf (channelCalOf i a).source i (a + 4 + 2 * k)) := by
  obtain ⟨hangle, hnext⟩ := curvePoints_getElem? h
  rw [show a + 3 + 2 * k = a + 2 + 2 * k + 1 by omega, show a + 4 + 2 * k = a + 2 + 2 * k + 2 by omega]
  refine ⟨hangle, ?_, hnext⟩
  rintro rfl
  exact curvePoints_first h

/-- Settles O7: the shares of the reading by the validity of the area, and each field of the image by its words. -/
theorem loadEndCalibration : Obligations.LoadEndCalibration := by
  unfold Obligations.LoadEndCalibration
  refine ⟨fun s wordsRead silent hload => ?taken, fun i => ⟨?tank, ?channels, ?senses, ?positions, ?services⟩, rfl, rfl, rfl,
    rfl⟩
  case taken =>
    intro i
    refine ⟨(s.loadRead wordsRead silent).enterByRun.finish,
      (show execLoadEnd wordsRead silent s = _ from execLoadEnd_eq wordsRead silent hload), ?_⟩
    have hentered := (s.loadRead wordsRead silent).enterByRun_entered
    have hpw := s.loadRead_pw wordsRead silent
    have hline := s.loadRead_line wordsRead silent
    have hread : s.loadRead wordsRead silent = (s.readingEnded wordsRead).takeImage i := rfl
    have hcal := (s.readingEnded wordsRead).takeImage_cal i
    have hgauges := (s.readingEnded wordsRead).takeImage_gauges i
    have hwarn := (s.readingEnded wordsRead).takeImage_warn i
    have hcfgs := (s.readingEnded wordsRead).takeImage_cfgs i
    rw [← hread] at hcal hgauges hwarn hcfgs
    generalize s.loadRead wordsRead silent = v at *
    generalize v.enterByRun.finish = t at *
    obtain ⟨-, ⟨hcal', -, hgauges', hservice⟩, hpower, -, -, hwarn', -, -, hline', -⟩ := hentered
    have hfault : t.pw.calFault = (calShares i).fault := by rw [hpower, hpw]
    have hchannels : t.gauges.map Channel.cal = (calShares i).channels := by
      rw [hgauges', hgauges, List.map_map]
      exact (List.map_congr_left fun c _ => Channel.loaded_cal c).trans (List.map_id _)
    have hshares : t.cal = (calShares i).cal ∧ t.line.halt = (calShares i).halt ∧ t.line.resume = (calShares i).resume ∧
        t.warn.sense = (calShares i).senses ∧ t.warn.table = (calShares i).positions ∧
        t.service.items.map ServiceItem.cfg = (calShares i).services := by
      rw [hcal', hcal, hline', hline, hwarn', hwarn, hservice, hcfgs]
      exact ⟨rfl, rfl, rfl, rfl, rfl, rfl⟩
    obtain ⟨hcal, hhalt, hresume, hsense, htable, hitems⟩ := hshares
    have hsettings : t.pw.units = t.cal.units ∧ t.pw.overspeed = t.cal.overspeed ∧ t.pw.volume = t.cal.volume ∧
        t.pw.clock12 = t.cal.clock12 := by
      rw [hcal, hpower, hpw]
      exact ⟨rfl, rfl, rfl, rfl⟩
    obtain ⟨hunits, hoverspeed, hvolume, hclock⟩ := hsettings
    refine ⟨?fault, fun h => ?valid, fun h => ?invalid, hunits, hoverspeed, hvolume, hclock, fun c hc => ?rests⟩
    case fault =>
      rw [hfault, calShares_fault, ← Bool.not_eq_true]
      exact not_congr (calValid_iff s.mem wordsRead silent)
    case valid =>
      have hvalid : calValid i = true := by
        rw [← Bool.not_eq_false, ← calShares_fault, ← hfault, h]
        simp
      rw [hcal, hhalt, hresume, hchannels, hsense, htable, hitems, calShares_valid hvalid]
      exact ⟨rfl, rfl, rfl, rfl, rfl, rfl, rfl⟩
    case invalid =>
      have hinvalid : calValid i = false := (calShares_fault i).mp (hfault ▸ h)
      rw [hcal, hhalt, hresume, hchannels, hsense, htable, hitems, calShares_invalid hinvalid]
      exact ⟨rfl, rfl, rfl, rfl, rfl, rfl, rfl⟩
    case rests =>
      rw [hgauges', hgauges] at hc
      obtain ⟨cal, -, rfl⟩ := List.mem_map.mp hc
      rw [Channel.loaded_cal]
      exact Channel.loaded_rests cal
  case tank =>
    refine ⟨tankPoints_length .., fun k p hp => ?_⟩
    obtain ⟨hvolume, hnext⟩ := tankPoints_getElem? hp
    rw [show 162 + 2 * k = 161 + 2 * k + 1 by omega, show 163 + 2 * k = 161 + 2 * k + 2 by omega]
    refine ⟨hvolume, ?_, hnext⟩
    rintro rfl
    exact (tankPoints_head? hp).trans (Nat.zero_max _)
  case channels =>
    refine ⟨by simp [channelsOf], fun n c hc => ?_⟩
    obtain rfl := range_map_getElem? hc
    intro a input
    refine ⟨sourceOf_eq _, rfl, rfl, rfl, rfl, curvePoints_length .., fun k p hp => ?_⟩
    obtain ⟨hangle, hfirst, hnext⟩ := channelCalOf_curve i a k hp
    refine ⟨hangle, fun hsource => ?_⟩
    have hinput (b : Nat) : inputOf (channelCalOf i a).source i b = input b := by
      show inputOf (channelCalOf i a).source i b = match (channelCalOf i a).source with
        | .off => 0
        | .speed => min 2999 (i.nat b)
        | .engineSpeed => min 8160 (i.nat b)
        | .fuelLevel => min 255 (i.nat b)
        | .coolant => max (-40) (min 150 (i.int b))
        | .oil => min 1020 (i.nat b)
        | .battery => min 255 (i.nat b)
      cases h : (channelCalOf i a).source with
      | off => exact absurd h hsource
      | speed | engineSpeed | fuelLevel | coolant | oil | battery => rfl
    rw [← hinput, ← hinput]
    exact ⟨hfirst, hnext⟩
  case senses =>
    refine ⟨by simp [sensesOf], fun n c hc => ?_⟩
    obtain rfl := range_map_getElem? hc
    exact senseOf_eq (i.nat_le _)
  case positions =>
    refine ⟨by simp [positionsOf], fun n x hx => ?_⟩
    obtain rfl := range_map_getElem? hx
    intro w term trigger
    obtain ⟨hfree, hused⟩ := positionOf_eq i (195 + 4 * n)
    refine ⟨hfree, fun h => (hused h).trans ?_⟩
    have hlow := i.nat_le (195 + 4 * n)
    rw [warnCfgOf_eq _ (i.nat_le _) (i.nat_le _), termOf_eq (by omega), termOf_eq (by omega)]
    rfl
  case services =>
    refine ⟨by simp [serviceCfgsOf], fun n c hc => ?_⟩
    obtain rfl := range_map_getElem? hc
    exact ⟨rfl, rfl, rfl, rfl, rfl, rfl, rfl⟩

end Sys2Proof.Machine
end
